-- ==== Sys2Proof/Word.lean ====
section
/-! DEFINITION. The two word types of the core: bytes (registers, memory cells) and 16-bit words (pairs, pc, sp, addresses), 00_scope.md R6. -/

namespace Sys2Proof

/-- An 8-bit value: a register, a flags byte, a memory cell, an operand byte (R6, R20). -/
abbrev Byte := BitVec 8

/-- A 16-bit value: a pair, `pc`, `sp`, an address (R6, R25, R26). Its arithmetic wraps mod 2^16. -/
abbrev Word := BitVec 16

end Sys2Proof
end

