-- ==== Sys2Proof/Syntax.lean ====
section
/-! DEFINITION. The instructions: one constructor of Instr per row of spec/opcode_table.json (R90, R91), and the operand selectors of R83 to R86. -/

namespace Sys2Proof

/-- The seven stored general registers (R20). -/
inductive Reg where
  | a | b | c | d | e | h | l
  deriving DecidableEq, Repr, Inhabited

/-- The eight operand slots in the order of R83; `mhl` is the memory cell at HL. -/
inductive Slot where
  | b | c | d | e | h | l | mhl | a
  deriving DecidableEq, Repr, Inhabited

/-- The pair selector `rp` (R84). -/
inductive Pair where
  | bc | de | hl | sp
  deriving DecidableEq, Repr, Inhabited

/-- The pair selector `rp2` of PUSH and POP (R84). -/
inductive StackPair where
  | bc | de | hl | af
  deriving DecidableEq, Repr, Inhabited

/-- The condition selector (R85). -/
inductive Cond where
  | nz | z | nc | c
  deriving DecidableEq, Repr, Inhabited

/-- The ALU operation selector (R86). -/
inductive AluOp where
  | add | adc | sub | sbc | and | xor | or | cp
  deriving DecidableEq, Repr, Inhabited

/-- The rotate and shift selector of the extended table (R91, R320). -/
inductive RotOp where
  | rlc | rrc | rl | rr | sla | sra | swap | srl
  deriving DecidableEq, Repr, Inhabited

/-- The two opcode tables (R89). -/
inductive Table where
  | primary | extended
  deriving DecidableEq, Repr, Inhabited

/-- The instructions. A constructor's name is the row's mnemonic in small letters, `m` before a register
or an address standing for a memory operand: `ld_a_mhli` is LD A,(HL+). Operand bytes `d8`, `a8`, `e8`
are a `Byte`, `d16` and `a16` a `Word`. The rows with operand bytes come first (the compiler takes no constructor
with fields past number 243), then the other primary rows, then the extended ones. -/
inductive Instr where
  /-- LD BC,d16: primary 0x01, R210. -/
  | ld_bc_d16 (n : Word)
  /-- LD B,d8: primary 0x06, R174. -/
  | ld_b_d8 (n : Byte)
  /-- LD (a16),SP: primary 0x08, R211. -/
  | ld_ma16_sp (n : Word)
  /-- LD C,d8: primary 0x0E, R174. -/
  | ld_c_d8 (n : Byte)
  /-- LD DE,d16: primary 0x11, R210. -/
  | ld_de_d16 (n : Word)
  /-- LD D,d8: primary 0x16, R174. -/
  | ld_d_d8 (n : Byte)
  /-- JR e8: primary 0x18, R283. -/
  | jr_e8 (n : Byte)
  /-- LD E,d8: primary 0x1E, R174. -/
  | ld_e_d8 (n : Byte)
  /-- JR NZ,e8: primary 0x20, R284. -/
  | jr_nz_e8 (n : Byte)
  /-- LD HL,d16: primary 0x21, R210. -/
  | ld_hl_d16 (n : Word)
  /-- LD H,d8: primary 0x26, R174. -/
  | ld_h_d8 (n : Byte)
  /-- JR Z,e8: primary 0x28, R284. -/
  | jr_z_e8 (n : Byte)
  /-- LD L,d8: primary 0x2E, R174. -/
  | ld_l_d8 (n : Byte)
  /-- JR NC,e8: primary 0x30, R284. -/
  | jr_nc_e8 (n : Byte)
  /-- LD SP,d16: primary 0x31, R210. -/
  | ld_sp_d16 (n : Word)
  /-- LD (HL),d8: primary 0x36, R175. -/
  | ld_mhl_d8 (n : Byte)
  /-- JR C,e8: primary 0x38, R284. -/
  | jr_c_e8 (n : Byte)
  /-- LD A,d8: primary 0x3E, R174. -/
  | ld_a_d8 (n : Byte)
  /-- JP NZ,a16: primary 0xC2, R281. -/
  | jp_nz_a16 (n : Word)
  /-- JP a16: primary 0xC3, R280. -/
  | jp_a16 (n : Word)
  /-- CALL NZ,a16: primary 0xC4, R286. -/
  | call_nz_a16 (n : Word)
  /-- ADD A,d8: primary 0xC6, R238. -/
  | add_a_d8 (n : Byte)
  /-- JP Z,a16: primary 0xCA, R281. -/
  | jp_z_a16 (n : Word)
  /-- CALL Z,a16: primary 0xCC, R286. -/
  | call_z_a16 (n : Word)
  /-- CALL a16: primary 0xCD, R285. -/
  | call_a16 (n : Word)
  /-- ADC A,d8: primary 0xCE, R239. -/
  | adc_a_d8 (n : Byte)
  /-- JP NC,a16: primary 0xD2, R281. -/
  | jp_nc_a16 (n : Word)
  /-- CALL NC,a16: primary 0xD4, R286. -/
  | call_nc_a16 (n : Word)
  /-- SUB d8: primary 0xD6, R240. -/
  | sub_d8 (n : Byte)
  /-- JP C,a16: primary 0xDA, R281. -/
  | jp_c_a16 (n : Word)
  /-- CALL C,a16: primary 0xDC, R286. -/
  | call_c_a16 (n : Word)
  /-- SBC A,d8: primary 0xDE, R241. -/
  | sbc_a_d8 (n : Byte)
  /-- LDH (a8),A: primary 0xE0, R184. -/
  | ldh_ma8_a (n : Byte)
  /-- AND d8: primary 0xE6, R242. -/
  | and_d8 (n : Byte)
  /-- ADD SP,e8: primary 0xE8, R273. -/
  | add_sp_e8 (n : Byte)
  /-- LD (a16),A: primary 0xEA, R188. -/
  | ld_ma16_a (n : Word)
  /-- XOR d8: primary 0xEE, R243. -/
  | xor_d8 (n : Byte)
  /-- LDH A,(a8): primary 0xF0, R185. -/
  | ldh_a_ma8 (n : Byte)
  /-- OR d8: primary 0xF6, R244. -/
  | or_d8 (n : Byte)
  /-- LD HL,SP+e8: primary 0xF8, R213. -/
  | ld_hl_sp_e8 (n : Byte)
  /-- LD A,(a16): primary 0xFA, R189. -/
  | ld_a_ma16 (n : Word)
  /-- CP d8: primary 0xFE, R245. -/
  | cp_d8 (n : Byte)
  /-- NOP: primary 0x00, R300. -/
  | nop
  /-- LD (BC),A: primary 0x02, R176. -/
  | ld_mbc_a
  /-- INC BC: primary 0x03, R271. -/
  | inc_bc
  /-- INC B: primary 0x04, R246. -/
  | inc_b
  /-- DEC B: primary 0x05, R248. -/
  | dec_b
  /-- RLCA: primary 0x07, R250. -/
  | rlca
  /-- ADD HL,BC: primary 0x09, R270. -/
  | add_hl_bc
  /-- LD A,(BC): primary 0x0A, R178. -/
  | ld_a_mbc
  /-- DEC BC: primary 0x0B, R272. -/
  | dec_bc
  /-- INC C: primary 0x0C, R246. -/
  | inc_c
  /-- DEC C: primary 0x0D, R248. -/
  | dec_c
  /-- RRCA: primary 0x0F, R251. -/
  | rrca
  /-- STOP: primary 0x10, R301. -/
  | stop
  /-- LD (DE),A: primary 0x12, R177. -/
  | ld_mde_a
  /-- INC DE: primary 0x13, R271. -/
  | inc_de
  /-- INC D: primary 0x14, R246. -/
  | inc_d
  /-- DEC D: primary 0x15, R248. -/
  | dec_d
  /-- RLA: primary 0x17, R252. -/
  | rla
  /-- ADD HL,DE: primary 0x19, R270. -/
  | add_hl_de
  /-- LD A,(DE): primary 0x1A, R179. -/
  | ld_a_mde
  /-- DEC DE: primary 0x1B, R272. -/
  | dec_de
  /-- INC E: primary 0x1C, R246. -/
  | inc_e
  /-- DEC E: primary 0x1D, R248. -/
  | dec_e
  /-- RRA: primary 0x1F, R253. -/
  | rra
  /-- LD (HL+),A: primary 0x22, R180. -/
  | ld_mhli_a
  /-- INC HL: primary 0x23, R271. -/
  | inc_hl
  /-- INC H: primary 0x24, R246. -/
  | inc_h
  /-- DEC H: primary 0x25, R248. -/
  | dec_h
  /-- DAA: primary 0x27, R254. -/
  | daa
  /-- ADD HL,HL: primary 0x29, R270. -/
  | add_hl_hl
  /-- LD A,(HL+): primary 0x2A, R182. -/
  | ld_a_mhli
  /-- DEC HL: primary 0x2B, R272. -/
  | dec_hl
  /-- INC L: primary 0x2C, R246. -/
  | inc_l
  /-- DEC L: primary 0x2D, R248. -/
  | dec_l
  /-- CPL: primary 0x2F, R255. -/
  | cpl
  /-- LD (HL-),A: primary 0x32, R181. -/
  | ld_mhld_a
  /-- INC SP: primary 0x33, R271. -/
  | inc_sp
  /-- INC (HL): primary 0x34, R247. -/
  | inc_mhl
  /-- DEC (HL): primary 0x35, R249. -/
  | dec_mhl
  /-- SCF: primary 0x37, R256. -/
  | scf
  /-- ADD HL,SP: primary 0x39, R270. -/
  | add_hl_sp
  /-- LD A,(HL-): primary 0x3A, R183. -/
  | ld_a_mhld
  /-- DEC SP: primary 0x3B, R272. -/
  | dec_sp
  /-- INC A: primary 0x3C, R246. -/
  | inc_a
  /-- DEC A: primary 0x3D, R248. -/
  | dec_a
  /-- CCF: primary 0x3F, R257. -/
  | ccf
  /-- LD B,B: primary 0x40, R170. -/
  | ld_b_b
  /-- LD B,C: primary 0x41, R170. -/
  | ld_b_c
  /-- LD B,D: primary 0x42, R170. -/
  | ld_b_d
  /-- LD B,E: primary 0x43, R170. -/
  | ld_b_e
  /-- LD B,H: primary 0x44, R170. -/
  | ld_b_h
  /-- LD B,L: primary 0x45, R170. -/
  | ld_b_l
  /-- LD B,(HL): primary 0x46, R171. -/
  | ld_b_mhl
  /-- LD B,A: primary 0x47, R170. -/
  | ld_b_a
  /-- LD C,B: primary 0x48, R170. -/
  | ld_c_b
  /-- LD C,C: primary 0x49, R170. -/
  | ld_c_c
  /-- LD C,D: primary 0x4A, R170. -/
  | ld_c_d
  /-- LD C,E: primary 0x4B, R170. -/
  | ld_c_e
  /-- LD C,H: primary 0x4C, R170. -/
  | ld_c_h
  /-- LD C,L: primary 0x4D, R170. -/
  | ld_c_l
  /-- LD C,(HL): primary 0x4E, R171. -/
  | ld_c_mhl
  /-- LD C,A: primary 0x4F, R170. -/
  | ld_c_a
  /-- LD D,B: primary 0x50, R170. -/
  | ld_d_b
  /-- LD D,C: primary 0x51, R170. -/
  | ld_d_c
  /-- LD D,D: primary 0x52, R170. -/
  | ld_d_d
  /-- LD D,E: primary 0x53, R170. -/
  | ld_d_e
  /-- LD D,H: primary 0x54, R170. -/
  | ld_d_h
  /-- LD D,L: primary 0x55, R170. -/
  | ld_d_l
  /-- LD D,(HL): primary 0x56, R171. -/
  | ld_d_mhl
  /-- LD D,A: primary 0x57, R170. -/
  | ld_d_a
  /-- LD E,B: primary 0x58, R170. -/
  | ld_e_b
  /-- LD E,C: primary 0x59, R170. -/
  | ld_e_c
  /-- LD E,D: primary 0x5A, R170. -/
  | ld_e_d
  /-- LD E,E: primary 0x5B, R170. -/
  | ld_e_e
  /-- LD E,H: primary 0x5C, R170. -/
  | ld_e_h
  /-- LD E,L: primary 0x5D, R170. -/
  | ld_e_l
  /-- LD E,(HL): primary 0x5E, R171. -/
  | ld_e_mhl
  /-- LD E,A: primary 0x5F, R170. -/
  | ld_e_a
  /-- LD H,B: primary 0x60, R170. -/
  | ld_h_b
  /-- LD H,C: primary 0x61, R170. -/
  | ld_h_c
  /-- LD H,D: primary 0x62, R170. -/
  | ld_h_d
  /-- LD H,E: primary 0x63, R170. -/
  | ld_h_e
  /-- LD H,H: primary 0x64, R170. -/
  | ld_h_h
  /-- LD H,L: primary 0x65, R170. -/
  | ld_h_l
  /-- LD H,(HL): primary 0x66, R171. -/
  | ld_h_mhl
  /-- LD H,A: primary 0x67, R170. -/
  | ld_h_a
  /-- LD L,B: primary 0x68, R170. -/
  | ld_l_b
  /-- LD L,C: primary 0x69, R170. -/
  | ld_l_c
  /-- LD L,D: primary 0x6A, R170. -/
  | ld_l_d
  /-- LD L,E: primary 0x6B, R170. -/
  | ld_l_e
  /-- LD L,H: primary 0x6C, R170. -/
  | ld_l_h
  /-- LD L,L: primary 0x6D, R170. -/
  | ld_l_l
  /-- LD L,(HL): primary 0x6E, R171. -/
  | ld_l_mhl
  /-- LD L,A: primary 0x6F, R170. -/
  | ld_l_a
  /-- LD (HL),B: primary 0x70, R172. -/
  | ld_mhl_b
  /-- LD (HL),C: primary 0x71, R172. -/
  | ld_mhl_c
  /-- LD (HL),D: primary 0x72, R172. -/
  | ld_mhl_d
  /-- LD (HL),E: primary 0x73, R172. -/
  | ld_mhl_e
  /-- LD (HL),H: primary 0x74, R172. -/
  | ld_mhl_h
  /-- LD (HL),L: primary 0x75, R172. -/
  | ld_mhl_l
  /-- LD (HL),(HL): primary 0x76, R173. -/
  | ld_mhl_mhl
  /-- LD (HL),A: primary 0x77, R172. -/
  | ld_mhl_a
  /-- LD A,B: primary 0x78, R170. -/
  | ld_a_b
  /-- LD A,C: primary 0x79, R170. -/
  | ld_a_c
  /-- LD A,D: primary 0x7A, R170. -/
  | ld_a_d
  /-- LD A,E: primary 0x7B, R170. -/
  | ld_a_e
  /-- LD A,H: primary 0x7C, R170. -/
  | ld_a_h
  /-- LD A,L: primary 0x7D, R170. -/
  | ld_a_l
  /-- LD A,(HL): primary 0x7E, R171. -/
  | ld_a_mhl
  /-- LD A,A: primary 0x7F, R170. -/
  | ld_a_a
  /-- ADD A,B: primary 0x80, R230. -/
  | add_a_b
  /-- ADD A,C: primary 0x81, R230. -/
  | add_a_c
  /-- ADD A,D: primary 0x82, R230. -/
  | add_a_d
  /-- ADD A,E: primary 0x83, R230. -/
  | add_a_e
  /-- ADD A,H: primary 0x84, R230. -/
  | add_a_h
  /-- ADD A,L: primary 0x85, R230. -/
  | add_a_l
  /-- ADD A,(HL): primary 0x86, R230. -/
  | add_a_mhl
  /-- ADD A,A: primary 0x87, R230. -/
  | add_a_a
  /-- ADC A,B: primary 0x88, R231. -/
  | adc_a_b
  /-- ADC A,C: primary 0x89, R231. -/
  | adc_a_c
  /-- ADC A,D: primary 0x8A, R231. -/
  | adc_a_d
  /-- ADC A,E: primary 0x8B, R231. -/
  | adc_a_e
  /-- ADC A,H: primary 0x8C, R231. -/
  | adc_a_h
  /-- ADC A,L: primary 0x8D, R231. -/
  | adc_a_l
  /-- ADC A,(HL): primary 0x8E, R231. -/
  | adc_a_mhl
  /-- ADC A,A: primary 0x8F, R231. -/
  | adc_a_a
  /-- SUB B: primary 0x90, R232. -/
  | sub_b
  /-- SUB C: primary 0x91, R232. -/
  | sub_c
  /-- SUB D: primary 0x92, R232. -/
  | sub_d
  /-- SUB E: primary 0x93, R232. -/
  | sub_e
  /-- SUB H: primary 0x94, R232. -/
  | sub_h
  /-- SUB L: primary 0x95, R232. -/
  | sub_l
  /-- SUB (HL): primary 0x96, R232. -/
  | sub_mhl
  /-- SUB A: primary 0x97, R232. -/
  | sub_a
  /-- SBC A,B: primary 0x98, R233. -/
  | sbc_a_b
  /-- SBC A,C: primary 0x99, R233. -/
  | sbc_a_c
  /-- SBC A,D: primary 0x9A, R233. -/
  | sbc_a_d
  /-- SBC A,E: primary 0x9B, R233. -/
  | sbc_a_e
  /-- SBC A,H: primary 0x9C, R233. -/
  | sbc_a_h
  /-- SBC A,L: primary 0x9D, R233. -/
  | sbc_a_l
  /-- SBC A,(HL): primary 0x9E, R233. -/
  | sbc_a_mhl
  /-- SBC A,A: primary 0x9F, R233. -/
  | sbc_a_a
  /-- AND B: primary 0xA0, R234. -/
  | and_b
  /-- AND C: primary 0xA1, R234. -/
  | and_c
  /-- AND D: primary 0xA2, R234. -/
  | and_d
  /-- AND E: primary 0xA3, R234. -/
  | and_e
  /-- AND H: primary 0xA4, R234. -/
  | and_h
  /-- AND L: primary 0xA5, R234. -/
  | and_l
  /-- AND (HL): primary 0xA6, R234. -/
  | and_mhl
  /-- AND A: primary 0xA7, R234. -/
  | and_a
  /-- XOR B: primary 0xA8, R235. -/
  | xor_b
  /-- XOR C: primary 0xA9, R235. -/
  | xor_c
  /-- XOR D: primary 0xAA, R235. -/
  | xor_d
  /-- XOR E: primary 0xAB, R235. -/
  | xor_e
  /-- XOR H: primary 0xAC, R235. -/
  | xor_h
  /-- XOR L: primary 0xAD, R235. -/
  | xor_l
  /-- XOR (HL): primary 0xAE, R235. -/
  | xor_mhl
  /-- XOR A: primary 0xAF, R235. -/
  | xor_a
  /-- OR B: primary 0xB0, R236. -/
  | or_b
  /-- OR C: primary 0xB1, R236. -/
  | or_c
  /-- OR D: primary 0xB2, R236. -/
  | or_d
  /-- OR E: primary 0xB3, R236. -/
  | or_e
  /-- OR H: primary 0xB4, R236. -/
  | or_h
  /-- OR L: primary 0xB5, R236. -/
  | or_l
  /-- OR (HL): primary 0xB6, R236. -/
  | or_mhl
  /-- OR A: primary 0xB7, R236. -/
  | or_a
  /-- CP B: primary 0xB8, R237. -/
  | cp_b
  /-- CP C: primary 0xB9, R237. -/
  | cp_c
  /-- CP D: primary 0xBA, R237. -/
  | cp_d
  /-- CP E: primary 0xBB, R237. -/
  | cp_e
  /-- CP H: primary 0xBC, R237. -/
  | cp_h
  /-- CP L: primary 0xBD, R237. -/
  | cp_l
  /-- CP (HL): primary 0xBE, R237. -/
  | cp_mhl
  /-- CP A: primary 0xBF, R237. -/
  | cp_a
  /-- RET NZ: primary 0xC0, R288. -/
  | ret_nz
  /-- POP BC: primary 0xC1, R216. -/
  | pop_bc
  /-- PUSH BC: primary 0xC5, R214. -/
  | push_bc
  /-- RST 00H: primary 0xC7, R290. -/
  | rst_00h
  /-- RET Z: primary 0xC8, R288. -/
  | ret_z
  /-- RET: primary 0xC9, R287. -/
  | ret
  /-- PREFIX CB: primary 0xCB, R304. -/
  | prefix_cb
  /-- RST 08H: primary 0xCF, R290. -/
  | rst_08h
  /-- RET NC: primary 0xD0, R288. -/
  | ret_nc
  /-- POP DE: primary 0xD1, R216. -/
  | pop_de
  /-- ILLEGAL_D3: primary 0xD3, R305. -/
  | illegal_d3
  /-- PUSH DE: primary 0xD5, R214. -/
  | push_de
  /-- RST 10H: primary 0xD7, R290. -/
  | rst_10h
  /-- RET C: primary 0xD8, R288. -/
  | ret_c
  /-- RETI: primary 0xD9, R289. -/
  | reti
  /-- ILLEGAL_DB: primary 0xDB, R305. -/
  | illegal_db
  /-- ILLEGAL_DD: primary 0xDD, R305. -/
  | illegal_dd
  /-- RST 18H: primary 0xDF, R290. -/
  | rst_18h
  /-- POP HL: primary 0xE1, R216. -/
  | pop_hl
  /-- LD (C),A: primary 0xE2, R186. -/
  | ld_mc_a
  /-- ILLEGAL_E3: primary 0xE3, R305. -/
  | illegal_e3
  /-- ILLEGAL_E4: primary 0xE4, R305. -/
  | illegal_e4
  /-- PUSH HL: primary 0xE5, R214. -/
  | push_hl
  /-- RST 20H: primary 0xE7, R290. -/
  | rst_20h
  /-- JP (HL): primary 0xE9, R282. -/
  | jp_hl
  /-- ILLEGAL_EB: primary 0xEB, R305. -/
  | illegal_eb
  /-- ILLEGAL_EC: primary 0xEC, R305. -/
  | illegal_ec
  /-- ILLEGAL_ED: primary 0xED, R305. -/
  | illegal_ed
  /-- RST 28H: primary 0xEF, R290. -/
  | rst_28h
  /-- POP AF: primary 0xF1, R217. -/
  | pop_af
  /-- LD A,(C): primary 0xF2, R187. -/
  | ld_a_mc
  /-- DI: primary 0xF3, R302. -/
  | di
  /-- ILLEGAL_F4: primary 0xF4, R305. -/
  | illegal_f4
  /-- PUSH AF: primary 0xF5, R215. -/
  | push_af
  /-- RST 30H: primary 0xF7, R290. -/
  | rst_30h
  /-- LD SP,HL: primary 0xF9, R212. -/
  | ld_sp_hl
  /-- EI: primary 0xFB, R303. -/
  | ei
  /-- ILLEGAL_FC: primary 0xFC, R305. -/
  | illegal_fc
  /-- ILLEGAL_FD: primary 0xFD, R305. -/
  | illegal_fd
  /-- RST 38H: primary 0xFF, R290. -/
  | rst_38h
  /-- RLC B: extended 0x00, R321. -/
  | rlc_b
  /-- RLC C: extended 0x01, R321. -/
  | rlc_c
  /-- RLC D: extended 0x02, R321. -/
  | rlc_d
  /-- RLC E: extended 0x03, R321. -/
  | rlc_e
  /-- RLC H: extended 0x04, R321. -/
  | rlc_h
  /-- RLC L: extended 0x05, R321. -/
  | rlc_l
  /-- RLC (HL): extended 0x06, R321. -/
  | rlc_mhl
  /-- RLC A: extended 0x07, R321. -/
  | rlc_a
  /-- RRC B: extended 0x08, R322. -/
  | rrc_b
  /-- RRC C: extended 0x09, R322. -/
  | rrc_c
  /-- RRC D: extended 0x0A, R322. -/
  | rrc_d
  /-- RRC E: extended 0x0B, R322. -/
  | rrc_e
  /-- RRC H: extended 0x0C, R322. -/
  | rrc_h
  /-- RRC L: extended 0x0D, R322. -/
  | rrc_l
  /-- RRC (HL): extended 0x0E, R322. -/
  | rrc_mhl
  /-- RRC A: extended 0x0F, R322. -/
  | rrc_a
  /-- RL B: extended 0x10, R323. -/
  | rl_b
  /-- RL C: extended 0x11, R323. -/
  | rl_c
  /-- RL D: extended 0x12, R323. -/
  | rl_d
  /-- RL E: extended 0x13, R323. -/
  | rl_e
  /-- RL H: extended 0x14, R323. -/
  | rl_h
  /-- RL L: extended 0x15, R323. -/
  | rl_l
  /-- RL (HL): extended 0x16, R323. -/
  | rl_mhl
  /-- RL A: extended 0x17, R323. -/
  | rl_a
  /-- RR B: extended 0x18, R324. -/
  | rr_b
  /-- RR C: extended 0x19, R324. -/
  | rr_c
  /-- RR D: extended 0x1A, R324. -/
  | rr_d
  /-- RR E: extended 0x1B, R324. -/
  | rr_e
  /-- RR H: extended 0x1C, R324. -/
  | rr_h
  /-- RR L: extended 0x1D, R324. -/
  | rr_l
  /-- RR (HL): extended 0x1E, R324. -/
  | rr_mhl
  /-- RR A: extended 0x1F, R324. -/
  | rr_a
  /-- SLA B: extended 0x20, R325. -/
  | sla_b
  /-- SLA C: extended 0x21, R325. -/
  | sla_c
  /-- SLA D: extended 0x22, R325. -/
  | sla_d
  /-- SLA E: extended 0x23, R325. -/
  | sla_e
  /-- SLA H: extended 0x24, R325. -/
  | sla_h
  /-- SLA L: extended 0x25, R325. -/
  | sla_l
  /-- SLA (HL): extended 0x26, R325. -/
  | sla_mhl
  /-- SLA A: extended 0x27, R325. -/
  | sla_a
  /-- SRA B: extended 0x28, R326. -/
  | sra_b
  /-- SRA C: extended 0x29, R326. -/
  | sra_c
  /-- SRA D: extended 0x2A, R326. -/
  | sra_d
  /-- SRA E: extended 0x2B, R326. -/
  | sra_e
  /-- SRA H: extended 0x2C, R326. -/
  | sra_h
  /-- SRA L: extended 0x2D, R326. -/
  | sra_l
  /-- SRA (HL): extended 0x2E, R326. -/
  | sra_mhl
  /-- SRA A: extended 0x2F, R326. -/
  | sra_a
  /-- SWAP B: extended 0x30, R327. -/
  | swap_b
  /-- SWAP C: extended 0x31, R327. -/
  | swap_c
  /-- SWAP D: extended 0x32, R327. -/
  | swap_d
  /-- SWAP E: extended 0x33, R327. -/
  | swap_e
  /-- SWAP H: extended 0x34, R327. -/
  | swap_h
  /-- SWAP L: extended 0x35, R327. -/
  | swap_l
  /-- SWAP (HL): extended 0x36, R327. -/
  | swap_mhl
  /-- SWAP A: extended 0x37, R327. -/
  | swap_a
  /-- SRL B: extended 0x38, R328. -/
  | srl_b
  /-- SRL C: extended 0x39, R328. -/
  | srl_c
  /-- SRL D: extended 0x3A, R328. -/
  | srl_d
  /-- SRL E: extended 0x3B, R328. -/
  | srl_e
  /-- SRL H: extended 0x3C, R328. -/
  | srl_h
  /-- SRL L: extended 0x3D, R328. -/
  | srl_l
  /-- SRL (HL): extended 0x3E, R328. -/
  | srl_mhl
  /-- SRL A: extended 0x3F, R328. -/
  | srl_a
  /-- BIT 0,B: extended 0x40, R329. -/
  | bit_0_b
  /-- BIT 0,C: extended 0x41, R329. -/
  | bit_0_c
  /-- BIT 0,D: extended 0x42, R329. -/
  | bit_0_d
  /-- BIT 0,E: extended 0x43, R329. -/
  | bit_0_e
  /-- BIT 0,H: extended 0x44, R329. -/
  | bit_0_h
  /-- BIT 0,L: extended 0x45, R329. -/
  | bit_0_l
  /-- BIT 0,(HL): extended 0x46, R329. -/
  | bit_0_mhl
  /-- BIT 0,A: extended 0x47, R329. -/
  | bit_0_a
  /-- BIT 1,B: extended 0x48, R329. -/
  | bit_1_b
  /-- BIT 1,C: extended 0x49, R329. -/
  | bit_1_c
  /-- BIT 1,D: extended 0x4A, R329. -/
  | bit_1_d
  /-- BIT 1,E: extended 0x4B, R329. -/
  | bit_1_e
  /-- BIT 1,H: extended 0x4C, R329. -/
  | bit_1_h
  /-- BIT 1,L: extended 0x4D, R329. -/
  | bit_1_l
  /-- BIT 1,(HL): extended 0x4E, R329. -/
  | bit_1_mhl
  /-- BIT 1,A: extended 0x4F, R329. -/
  | bit_1_a
  /-- BIT 2,B: extended 0x50, R329. -/
  | bit_2_b
  /-- BIT 2,C: extended 0x51, R329. -/
  | bit_2_c
  /-- BIT 2,D: extended 0x52, R329. -/
  | bit_2_d
  /-- BIT 2,E: extended 0x53, R329. -/
  | bit_2_e
  /-- BIT 2,H: extended 0x54, R329. -/
  | bit_2_h
  /-- BIT 2,L: extended 0x55, R329. -/
  | bit_2_l
  /-- BIT 2,(HL): extended 0x56, R329. -/
  | bit_2_mhl
  /-- BIT 2,A: extended 0x57, R329. -/
  | bit_2_a
  /-- BIT 3,B: extended 0x58, R329. -/
  | bit_3_b
  /-- BIT 3,C: extended 0x59, R329. -/
  | bit_3_c
  /-- BIT 3,D: extended 0x5A, R329. -/
  | bit_3_d
  /-- BIT 3,E: extended 0x5B, R329. -/
  | bit_3_e
  /-- BIT 3,H: extended 0x5C, R329. -/
  | bit_3_h
  /-- BIT 3,L: extended 0x5D, R329. -/
  | bit_3_l
  /-- BIT 3,(HL): extended 0x5E, R329. -/
  | bit_3_mhl
  /-- BIT 3,A: extended 0x5F, R329. -/
  | bit_3_a
  /-- BIT 4,B: extended 0x60, R329. -/
  | bit_4_b
  /-- BIT 4,C: extended 0x61, R329. -/
  | bit_4_c
  /-- BIT 4,D: extended 0x62, R329. -/
  | bit_4_d
  /-- BIT 4,E: extended 0x63, R329. -/
  | bit_4_e
  /-- BIT 4,H: extended 0x64, R329. -/
  | bit_4_h
  /-- BIT 4,L: extended 0x65, R329. -/
  | bit_4_l
  /-- BIT 4,(HL): extended 0x66, R329. -/
  | bit_4_mhl
  /-- BIT 4,A: extended 0x67, R329. -/
  | bit_4_a
  /-- BIT 5,B: extended 0x68, R329. -/
  | bit_5_b
  /-- BIT 5,C: extended 0x69, R329. -/
  | bit_5_c
  /-- BIT 5,D: extended 0x6A, R329. -/
  | bit_5_d
  /-- BIT 5,E: extended 0x6B, R329. -/
  | bit_5_e
  /-- BIT 5,H: extended 0x6C, R329. -/
  | bit_5_h
  /-- BIT 5,L: extended 0x6D, R329. -/
  | bit_5_l
  /-- BIT 5,(HL): extended 0x6E, R329. -/
  | bit_5_mhl
  /-- BIT 5,A: extended 0x6F, R329. -/
  | bit_5_a
  /-- BIT 6,B: extended 0x70, R329. -/
  | bit_6_b
  /-- BIT 6,C: extended 0x71, R329. -/
  | bit_6_c
  /-- BIT 6,D: extended 0x72, R329. -/
  | bit_6_d
  /-- BIT 6,E: extended 0x73, R329. -/
  | bit_6_e
  /-- BIT 6,H: extended 0x74, R329. -/
  | bit_6_h
  /-- BIT 6,L: extended 0x75, R329. -/
  | bit_6_l
  /-- BIT 6,(HL): extended 0x76, R329. -/
  | bit_6_mhl
  /-- BIT 6,A: extended 0x77, R329. -/
  | bit_6_a
  /-- BIT 7,B: extended 0x78, R329. -/
  | bit_7_b
  /-- BIT 7,C: extended 0x79, R329. -/
  | bit_7_c
  /-- BIT 7,D: extended 0x7A, R329. -/
  | bit_7_d
  /-- BIT 7,E: extended 0x7B, R329. -/
  | bit_7_e
  /-- BIT 7,H: extended 0x7C, R329. -/
  | bit_7_h
  /-- BIT 7,L: extended 0x7D, R329. -/
  | bit_7_l
  /-- BIT 7,(HL): extended 0x7E, R329. -/
  | bit_7_mhl
  /-- BIT 7,A: extended 0x7F, R329. -/
  | bit_7_a
  /-- RES 0,B: extended 0x80, R330. -/
  | res_0_b
  /-- RES 0,C: extended 0x81, R330. -/
  | res_0_c
  /-- RES 0,D: extended 0x82, R330. -/
  | res_0_d
  /-- RES 0,E: extended 0x83, R330. -/
  | res_0_e
  /-- RES 0,H: extended 0x84, R330. -/
  | res_0_h
  /-- RES 0,L: extended 0x85, R330. -/
  | res_0_l
  /-- RES 0,(HL): extended 0x86, R330. -/
  | res_0_mhl
  /-- RES 0,A: extended 0x87, R330. -/
  | res_0_a
  /-- RES 1,B: extended 0x88, R330. -/
  | res_1_b
  /-- RES 1,C: extended 0x89, R330. -/
  | res_1_c
  /-- RES 1,D: extended 0x8A, R330. -/
  | res_1_d
  /-- RES 1,E: extended 0x8B, R330. -/
  | res_1_e
  /-- RES 1,H: extended 0x8C, R330. -/
  | res_1_h
  /-- RES 1,L: extended 0x8D, R330. -/
  | res_1_l
  /-- RES 1,(HL): extended 0x8E, R330. -/
  | res_1_mhl
  /-- RES 1,A: extended 0x8F, R330. -/
  | res_1_a
  /-- RES 2,B: extended 0x90, R330. -/
  | res_2_b
  /-- RES 2,C: extended 0x91, R330. -/
  | res_2_c
  /-- RES 2,D: extended 0x92, R330. -/
  | res_2_d
  /-- RES 2,E: extended 0x93, R330. -/
  | res_2_e
  /-- RES 2,H: extended 0x94, R330. -/
  | res_2_h
  /-- RES 2,L: extended 0x95, R330. -/
  | res_2_l
  /-- RES 2,(HL): extended 0x96, R330. -/
  | res_2_mhl
  /-- RES 2,A: extended 0x97, R330. -/
  | res_2_a
  /-- RES 3,B: extended 0x98, R330. -/
  | res_3_b
  /-- RES 3,C: extended 0x99, R330. -/
  | res_3_c
  /-- RES 3,D: extended 0x9A, R330. -/
  | res_3_d
  /-- RES 3,E: extended 0x9B, R330. -/
  | res_3_e
  /-- RES 3,H: extended 0x9C, R330. -/
  | res_3_h
  /-- RES 3,L: extended 0x9D, R330. -/
  | res_3_l
  /-- RES 3,(HL): extended 0x9E, R330. -/
  | res_3_mhl
  /-- RES 3,A: extended 0x9F, R330. -/
  | res_3_a
  /-- RES 4,B: extended 0xA0, R330. -/
  | res_4_b
  /-- RES 4,C: extended 0xA1, R330. -/
  | res_4_c
  /-- RES 4,D: extended 0xA2, R330. -/
  | res_4_d
  /-- RES 4,E: extended 0xA3, R330. -/
  | res_4_e
  /-- RES 4,H: extended 0xA4, R330. -/
  | res_4_h
  /-- RES 4,L: extended 0xA5, R330. -/
  | res_4_l
  /-- RES 4,(HL): extended 0xA6, R330. -/
  | res_4_mhl
  /-- RES 4,A: extended 0xA7, R330. -/
  | res_4_a
  /-- RES 5,B: extended 0xA8, R330. -/
  | res_5_b
  /-- RES 5,C: extended 0xA9, R330. -/
  | res_5_c
  /-- RES 5,D: extended 0xAA, R330. -/
  | res_5_d
  /-- RES 5,E: extended 0xAB, R330. -/
  | res_5_e
  /-- RES 5,H: extended 0xAC, R330. -/
  | res_5_h
  /-- RES 5,L: extended 0xAD, R330. -/
  | res_5_l
  /-- RES 5,(HL): extended 0xAE, R330. -/
  | res_5_mhl
  /-- RES 5,A: extended 0xAF, R330. -/
  | res_5_a
  /-- RES 6,B: extended 0xB0, R330. -/
  | res_6_b
  /-- RES 6,C: extended 0xB1, R330. -/
  | res_6_c
  /-- RES 6,D: extended 0xB2, R330. -/
  | res_6_d
  /-- RES 6,E: extended 0xB3, R330. -/
  | res_6_e
  /-- RES 6,H: extended 0xB4, R330. -/
  | res_6_h
  /-- RES 6,L: extended 0xB5, R330. -/
  | res_6_l
  /-- RES 6,(HL): extended 0xB6, R330. -/
  | res_6_mhl
  /-- RES 6,A: extended 0xB7, R330. -/
  | res_6_a
  /-- RES 7,B: extended 0xB8, R330. -/
  | res_7_b
  /-- RES 7,C: extended 0xB9, R330. -/
  | res_7_c
  /-- RES 7,D: extended 0xBA, R330. -/
  | res_7_d
  /-- RES 7,E: extended 0xBB, R330. -/
  | res_7_e
  /-- RES 7,H: extended 0xBC, R330. -/
  | res_7_h
  /-- RES 7,L: extended 0xBD, R330. -/
  | res_7_l
  /-- RES 7,(HL): extended 0xBE, R330. -/
  | res_7_mhl
  /-- RES 7,A: extended 0xBF, R330. -/
  | res_7_a
  /-- SET 0,B: extended 0xC0, R331. -/
  | set_0_b
  /-- SET 0,C: extended 0xC1, R331. -/
  | set_0_c
  /-- SET 0,D: extended 0xC2, R331. -/
  | set_0_d
  /-- SET 0,E: extended 0xC3, R331. -/
  | set_0_e
  /-- SET 0,H: extended 0xC4, R331. -/
  | set_0_h
  /-- SET 0,L: extended 0xC5, R331. -/
  | set_0_l
  /-- SET 0,(HL): extended 0xC6, R331. -/
  | set_0_mhl
  /-- SET 0,A: extended 0xC7, R331. -/
  | set_0_a
  /-- SET 1,B: extended 0xC8, R331. -/
  | set_1_b
  /-- SET 1,C: extended 0xC9, R331. -/
  | set_1_c
  /-- SET 1,D: extended 0xCA, R331. -/
  | set_1_d
  /-- SET 1,E: extended 0xCB, R331. -/
  | set_1_e
  /-- SET 1,H: extended 0xCC, R331. -/
  | set_1_h
  /-- SET 1,L: extended 0xCD, R331. -/
  | set_1_l
  /-- SET 1,(HL): extended 0xCE, R331. -/
  | set_1_mhl
  /-- SET 1,A: extended 0xCF, R331. -/
  | set_1_a
  /-- SET 2,B: extended 0xD0, R331. -/
  | set_2_b
  /-- SET 2,C: extended 0xD1, R331. -/
  | set_2_c
  /-- SET 2,D: extended 0xD2, R331. -/
  | set_2_d
  /-- SET 2,E: extended 0xD3, R331. -/
  | set_2_e
  /-- SET 2,H: extended 0xD4, R331. -/
  | set_2_h
  /-- SET 2,L: extended 0xD5, R331. -/
  | set_2_l
  /-- SET 2,(HL): extended 0xD6, R331. -/
  | set_2_mhl
  /-- SET 2,A: extended 0xD7, R331. -/
  | set_2_a
  /-- SET 3,B: extended 0xD8, R331. -/
  | set_3_b
  /-- SET 3,C: extended 0xD9, R331. -/
  | set_3_c
  /-- SET 3,D: extended 0xDA, R331. -/
  | set_3_d
  /-- SET 3,E: extended 0xDB, R331. -/
  | set_3_e
  /-- SET 3,H: extended 0xDC, R331. -/
  | set_3_h
  /-- SET 3,L: extended 0xDD, R331. -/
  | set_3_l
  /-- SET 3,(HL): extended 0xDE, R331. -/
  | set_3_mhl
  /-- SET 3,A: extended 0xDF, R331. -/
  | set_3_a
  /-- SET 4,B: extended 0xE0, R331. -/
  | set_4_b
  /-- SET 4,C: extended 0xE1, R331. -/
  | set_4_c
  /-- SET 4,D: extended 0xE2, R331. -/
  | set_4_d
  /-- SET 4,E: extended 0xE3, R331. -/
  | set_4_e
  /-- SET 4,H: extended 0xE4, R331. -/
  | set_4_h
  /-- SET 4,L: extended 0xE5, R331. -/
  | set_4_l
  /-- SET 4,(HL): extended 0xE6, R331. -/
  | set_4_mhl
  /-- SET 4,A: extended 0xE7, R331. -/
  | set_4_a
  /-- SET 5,B: extended 0xE8, R331. -/
  | set_5_b
  /-- SET 5,C: extended 0xE9, R331. -/
  | set_5_c
  /-- SET 5,D: extended 0xEA, R331. -/
  | set_5_d
  /-- SET 5,E: extended 0xEB, R331. -/
  | set_5_e
  /-- SET 5,H: extended 0xEC, R331. -/
  | set_5_h
  /-- SET 5,L: extended 0xED, R331. -/
  | set_5_l
  /-- SET 5,(HL): extended 0xEE, R331. -/
  | set_5_mhl
  /-- SET 5,A: extended 0xEF, R331. -/
  | set_5_a
  /-- SET 6,B: extended 0xF0, R331. -/
  | set_6_b
  /-- SET 6,C: extended 0xF1, R331. -/
  | set_6_c
  /-- SET 6,D: extended 0xF2, R331. -/
  | set_6_d
  /-- SET 6,E: extended 0xF3, R331. -/
  | set_6_e
  /-- SET 6,H: extended 0xF4, R331. -/
  | set_6_h
  /-- SET 6,L: extended 0xF5, R331. -/
  | set_6_l
  /-- SET 6,(HL): extended 0xF6, R331. -/
  | set_6_mhl
  /-- SET 6,A: extended 0xF7, R331. -/
  | set_6_a
  /-- SET 7,B: extended 0xF8, R331. -/
  | set_7_b
  /-- SET 7,C: extended 0xF9, R331. -/
  | set_7_c
  /-- SET 7,D: extended 0xFA, R331. -/
  | set_7_d
  /-- SET 7,E: extended 0xFB, R331. -/
  | set_7_e
  /-- SET 7,H: extended 0xFC, R331. -/
  | set_7_h
  /-- SET 7,L: extended 0xFD, R331. -/
  | set_7_l
  /-- SET 7,(HL): extended 0xFE, R331. -/
  | set_7_mhl
  /-- SET 7,A: extended 0xFF, R331. -/
  | set_7_a
  deriving DecidableEq, Repr, Inhabited

end Sys2Proof
end

