-- ==== Sys2Proof/Config.lean ====
section
/-! DEFINITION. The implementation parameters of 00_scope.md R6, one field each, and the two the spec leaves OPEN (D17) as opaque constants. The values the spec decides stand in Machine/Params.lean. -/

namespace Sys2Proof

/-- `CARRY_FOLD`: the operand into which adc and sbc fold the incoming Carry (R111, R113, D7). -/
inductive CarryFold where
  | intoA | intoB
  deriving DecidableEq, Repr, Inhabited

/-- `SRL_Z`, `SWAP_Z`: whether srl and swap recompute Zero (R127, R128, D8). -/
inductive ZeroRule where
  | result | unchanged
  deriving DecidableEq, Repr, Inhabited

/-- `SWAP_C`: Carry after swap (R128, D9). -/
inductive SwapCarry where
  | cleared | unchanged
  deriving DecidableEq, Repr, Inhabited

/-- `ROTA_Z`: Zero after RLCA, RRCA, RLA, RRA (R250 to R253, D13). -/
inductive RotaZero where
  | helper | cleared
  deriving DecidableEq, Repr, Inhabited

/-- `OP76`: what opcode 0x76 does (R173, D15). -/
inductive Op76 where
  | bandMove | halt
  deriving DecidableEq, Repr, Inhabited

/-- `OP10`: what opcode 0x10 does (R301, D16). -/
inductive Op10 where
  | nop | halt
  deriving DecidableEq, Repr, Inhabited

/-- `RETCC_IME_CLEAR_WHEN`: when the selected conditional return clears `ime` (R288, D17). -/
inductive ImeClearWhen where
  | taken | always
  deriving DecidableEq, Repr, Inhabited

/-- The parameters of R6. `RECOGNISED_PRIMARY` and `RECOGNISED_EXT` are held through the opcodes they leave
out (R93): every value outside `unhandledPrimary` and `illegalSet` is recognised, every extended value
outside `unhandledExt` is. `RETCC_IME_CLEAR_OPCODE` is held as the condition of the return it names:
0xC0, 0xC8, 0xD0, 0xD8 are RET NZ, Z, NC, C. -/
structure Config where
  prefixOp         : Byte
  illegalSet       : List Byte
  unhandledPrimary : List Byte
  unhandledExt     : List Byte
  carryFold        : CarryFold
  srlZ             : ZeroRule
  swapZ            : ZeroRule
  swapC            : SwapCarry
  rotaZ            : RotaZero
  op76             : Op76
  op10             : Op10
  retccImeClear    : Cond
  retccWhen        : ImeClearWhen
  deriving DecidableEq, Repr

/-- FREE VALUE (log entry 3): which of the four conditional returns clears `ime`; OPEN in the spec (R288, D17). -/
opaque Config.openRetccImeClear : Cond

/-- FREE VALUE (log entry 3): whether it does so only when taken; OPEN in the spec (R288, D17). -/
opaque Config.openRetccWhen : ImeClearWhen

end Sys2Proof
end

