-- ==== Sys2Proof/Machine/Params.lean ====
section
/-! DEFINITION. The parameter values of this core: the spec's defaults (R6), with D17's two open ones left opaque. -/

namespace Sys2Proof

/-- `ILLEGAL_SET` (R92, D3). -/
def Config.illegalOpcodes : List Byte :=
  [0xD3, 0xDB, 0xDD, 0xE3, 0xE4, 0xEB, 0xEC, 0xED, 0xF4, 0xFC, 0xFD]

/-- The core the spec describes: every decided parameter of R6 at its default. UNVERIFIED where the source
is silent (log entry 4). -/
def Config.jgameboy : Config where
  prefixOp         := 0xCB
  illegalSet       := Config.illegalOpcodes
  unhandledPrimary := []
  unhandledExt     := []
  carryFold        := .intoA
  srlZ             := .result
  swapZ            := .result
  swapC            := .cleared
  rotaZ            := .helper
  op76             := .bandMove
  op10             := .nop
  retccImeClear    := Config.openRetccImeClear
  retccWhen        := Config.openRetccWhen

end Sys2Proof
end

