-- ==== Sys2Proof/Decode.lean ====
section
/-! DEFINITION. Decoding and encoding, 30_encoding.md: the fields of an opcode byte (R81), the two tables (R89 to R91), decoders that are total on any bytes and reject by name, and the encoder written from the same tables. -/

namespace Sys2Proof

/-- `{hi, lo}` (R7): the 16-bit value with the given halves. -/
def wordOf (hi lo : Byte) : Word := hi ++ lo

/-- `v[15:8]`. -/
def hiByte (v : Word) : Byte := v.extractLsb' 8 8

/-- `v[7:0]`. -/
def loByte (v : Word) : Byte := v.extractLsb' 0 8

/-! ## Fields (R81) -/

/-- `x = op[7:6]`. -/
def fieldX (op : Byte) : BitVec 2 := op.extractLsb' 6 2
/-- `y = op[5:3]`. -/
def fieldY (op : Byte) : BitVec 3 := op.extractLsb' 3 3
/-- `z = op[2:0]`. -/
def fieldZ (op : Byte) : BitVec 3 := op.extractLsb' 0 3

/-- An opcode byte from its fields. -/
def opOf (x : BitVec 2) (y z : BitVec 3) : Byte := x ++ y ++ z

/-- Slot numbers (R83). -/
def Slot.code : Slot → BitVec 3
  | .b => 0 | .c => 1 | .d => 2 | .e => 3 | .h => 4 | .l => 5 | .mhl => 6 | .a => 7

/-- The slot of a 3-bit number (R83). -/
def Slot.ofCode (n : BitVec 3) : Slot :=
  match n.toNat with
  | 0 => .b | 1 => .c | 2 => .d | 3 => .e | 4 => .h | 5 => .l | 6 => .mhl | _ => .a

/-- ALU selector numbers (R86). -/
def AluOp.code : AluOp → BitVec 3
  | .add => 0 | .adc => 1 | .sub => 2 | .sbc => 3 | .and => 4 | .xor => 5 | .or => 6 | .cp => 7

/-- The ALU operation of a 3-bit number (R86). -/
def AluOp.ofCode (n : BitVec 3) : AluOp :=
  match n.toNat with
  | 0 => .add | 1 => .adc | 2 => .sub | 3 => .sbc | 4 => .and | 5 => .xor | 6 => .or | _ => .cp

/-- Rotate selector numbers (R91). -/
def RotOp.code : RotOp → BitVec 3
  | .rlc => 0 | .rrc => 1 | .rl => 2 | .rr => 3 | .sla => 4 | .sra => 5 | .swap => 6 | .srl => 7

/-- The rotate of a 3-bit number (R91, R320). -/
def RotOp.ofCode (n : BitVec 3) : RotOp :=
  match n.toNat with
  | 0 => .rlc | 1 => .rrc | 2 => .rl | 3 => .rr | 4 => .sla | 5 => .sra | 6 => .swap | _ => .srl

/-- Pair numbers of `rp` (R84). -/
def Pair.code : Pair → BitVec 2
  | .bc => 0 | .de => 1 | .hl => 2 | .sp => 3

/-- Pair numbers of `rp2` (R84). -/
def StackPair.code : StackPair → BitVec 2
  | .bc => 0 | .de => 1 | .hl => 2 | .af => 3

/-- Condition numbers (R85). -/
def Cond.code : Cond → BitVec 2
  | .nz => 0 | .z => 1 | .nc => 2 | .c => 3

/-! ## Selectors: the row of a band, or of a family, for given operands (R90, R91) -/

/-- The load band: LD destination,source; the (HL),(HL) entry is 0x76 (R89, R170 to R173). -/
def Instr.ldBand : Slot → Slot → Instr
  | .b, .b => .ld_b_b | .b, .c => .ld_b_c | .b, .d => .ld_b_d | .b, .e => .ld_b_e | .b, .h => .ld_b_h | .b, .l => .ld_b_l | .b, .mhl => .ld_b_mhl | .b, .a => .ld_b_a
  | .c, .b => .ld_c_b | .c, .c => .ld_c_c | .c, .d => .ld_c_d | .c, .e => .ld_c_e | .c, .h => .ld_c_h | .c, .l => .ld_c_l | .c, .mhl => .ld_c_mhl | .c, .a => .ld_c_a
  | .d, .b => .ld_d_b | .d, .c => .ld_d_c | .d, .d => .ld_d_d | .d, .e => .ld_d_e | .d, .h => .ld_d_h | .d, .l => .ld_d_l | .d, .mhl => .ld_d_mhl | .d, .a => .ld_d_a
  | .e, .b => .ld_e_b | .e, .c => .ld_e_c | .e, .d => .ld_e_d | .e, .e => .ld_e_e | .e, .h => .ld_e_h | .e, .l => .ld_e_l | .e, .mhl => .ld_e_mhl | .e, .a => .ld_e_a
  | .h, .b => .ld_h_b | .h, .c => .ld_h_c | .h, .d => .ld_h_d | .h, .e => .ld_h_e | .h, .h => .ld_h_h | .h, .l => .ld_h_l | .h, .mhl => .ld_h_mhl | .h, .a => .ld_h_a
  | .l, .b => .ld_l_b | .l, .c => .ld_l_c | .l, .d => .ld_l_d | .l, .e => .ld_l_e | .l, .h => .ld_l_h | .l, .l => .ld_l_l | .l, .mhl => .ld_l_mhl | .l, .a => .ld_l_a
  | .mhl, .b => .ld_mhl_b | .mhl, .c => .ld_mhl_c | .mhl, .d => .ld_mhl_d | .mhl, .e => .ld_mhl_e | .mhl, .h => .ld_mhl_h | .mhl, .l => .ld_mhl_l | .mhl, .mhl => .ld_mhl_mhl | .mhl, .a => .ld_mhl_a
  | .a, .b => .ld_a_b | .a, .c => .ld_a_c | .a, .d => .ld_a_d | .a, .e => .ld_a_e | .a, .h => .ld_a_h | .a, .l => .ld_a_l | .a, .mhl => .ld_a_mhl | .a, .a => .ld_a_a

/-- The ALU band: operation, operand slot (R86, R230 to R237). -/
def Instr.aluBand : AluOp → Slot → Instr
  | .add, .b => .add_a_b | .add, .c => .add_a_c | .add, .d => .add_a_d | .add, .e => .add_a_e | .add, .h => .add_a_h | .add, .l => .add_a_l | .add, .mhl => .add_a_mhl | .add, .a => .add_a_a
  | .adc, .b => .adc_a_b | .adc, .c => .adc_a_c | .adc, .d => .adc_a_d | .adc, .e => .adc_a_e | .adc, .h => .adc_a_h | .adc, .l => .adc_a_l | .adc, .mhl => .adc_a_mhl | .adc, .a => .adc_a_a
  | .sub, .b => .sub_b | .sub, .c => .sub_c | .sub, .d => .sub_d | .sub, .e => .sub_e | .sub, .h => .sub_h | .sub, .l => .sub_l | .sub, .mhl => .sub_mhl | .sub, .a => .sub_a
  | .sbc, .b => .sbc_a_b | .sbc, .c => .sbc_a_c | .sbc, .d => .sbc_a_d | .sbc, .e => .sbc_a_e | .sbc, .h => .sbc_a_h | .sbc, .l => .sbc_a_l | .sbc, .mhl => .sbc_a_mhl | .sbc, .a => .sbc_a_a
  | .and, .b => .and_b | .and, .c => .and_c | .and, .d => .and_d | .and, .e => .and_e | .and, .h => .and_h | .and, .l => .and_l | .and, .mhl => .and_mhl | .and, .a => .and_a
  | .xor, .b => .xor_b | .xor, .c => .xor_c | .xor, .d => .xor_d | .xor, .e => .xor_e | .xor, .h => .xor_h | .xor, .l => .xor_l | .xor, .mhl => .xor_mhl | .xor, .a => .xor_a
  | .or, .b => .or_b | .or, .c => .or_c | .or, .d => .or_d | .or, .e => .or_e | .or, .h => .or_h | .or, .l => .or_l | .or, .mhl => .or_mhl | .or, .a => .or_a
  | .cp, .b => .cp_b | .cp, .c => .cp_c | .cp, .d => .cp_d | .cp, .e => .cp_e | .cp, .h => .cp_h | .cp, .l => .cp_l | .cp, .mhl => .cp_mhl | .cp, .a => .cp_a

/-- The ALU operations with an immediate operand (R238 to R245). -/
def Instr.aluImm : AluOp → Byte → Instr
  | .add, n => .add_a_d8 n
  | .adc, n => .adc_a_d8 n
  | .sub, n => .sub_d8 n
  | .sbc, n => .sbc_a_d8 n
  | .and, n => .and_d8 n
  | .xor, n => .xor_d8 n
  | .or, n => .or_d8 n
  | .cp, n => .cp_d8 n

/-- LD slot,d8 (R174, R175). -/
def Instr.ldImm : Slot → Byte → Instr
  | .b, n => .ld_b_d8 n
  | .c, n => .ld_c_d8 n
  | .d, n => .ld_d_d8 n
  | .e, n => .ld_e_d8 n
  | .h, n => .ld_h_d8 n
  | .l, n => .ld_l_d8 n
  | .mhl, n => .ld_mhl_d8 n
  | .a, n => .ld_a_d8 n

/-- INC slot (R246, R247). -/
def Instr.incSlot : Slot → Instr
  | .b => .inc_b
  | .c => .inc_c
  | .d => .inc_d
  | .e => .inc_e
  | .h => .inc_h
  | .l => .inc_l
  | .mhl => .inc_mhl
  | .a => .inc_a

/-- DEC slot (R248, R249). -/
def Instr.decSlot : Slot → Instr
  | .b => .dec_b
  | .c => .dec_c
  | .d => .dec_d
  | .e => .dec_e
  | .h => .dec_h
  | .l => .dec_l
  | .mhl => .dec_mhl
  | .a => .dec_a

/-- LD rr,d16 (R210). -/
def Instr.ldPair : Pair → Word → Instr
  | .bc, n => .ld_bc_d16 n
  | .de, n => .ld_de_d16 n
  | .hl, n => .ld_hl_d16 n
  | .sp, n => .ld_sp_d16 n

/-- INC rr (R271). -/
def Instr.incPair : Pair → Instr
  | .bc => .inc_bc
  | .de => .inc_de
  | .hl => .inc_hl
  | .sp => .inc_sp

/-- DEC rr (R272). -/
def Instr.decPair : Pair → Instr
  | .bc => .dec_bc
  | .de => .dec_de
  | .hl => .dec_hl
  | .sp => .dec_sp

/-- ADD HL,rr (R270). -/
def Instr.addHL : Pair → Instr
  | .bc => .add_hl_bc
  | .de => .add_hl_de
  | .hl => .add_hl_hl
  | .sp => .add_hl_sp

/-- PUSH rr (R214, R215). -/
def Instr.push : StackPair → Instr
  | .bc => .push_bc
  | .de => .push_de
  | .hl => .push_hl
  | .af => .push_af

/-- POP rr (R216, R217). -/
def Instr.pop : StackPair → Instr
  | .bc => .pop_bc
  | .de => .pop_de
  | .hl => .pop_hl
  | .af => .pop_af

/-- JR cc,e8 (R284). -/
def Instr.jrCond : Cond → Byte → Instr
  | .nz, n => .jr_nz_e8 n
  | .z, n => .jr_z_e8 n
  | .nc, n => .jr_nc_e8 n
  | .c, n => .jr_c_e8 n

/-- JP cc,a16 (R281). -/
def Instr.jpCond : Cond → Word → Instr
  | .nz, n => .jp_nz_a16 n
  | .z, n => .jp_z_a16 n
  | .nc, n => .jp_nc_a16 n
  | .c, n => .jp_c_a16 n

/-- CALL cc,a16 (R286). -/
def Instr.callCond : Cond → Word → Instr
  | .nz, n => .call_nz_a16 n
  | .z, n => .call_z_a16 n
  | .nc, n => .call_nc_a16 n
  | .c, n => .call_c_a16 n

/-- RET cc (R288). -/
def Instr.retCond : Cond → Instr
  | .nz => .ret_nz
  | .z => .ret_z
  | .nc => .ret_nc
  | .c => .ret_c

/-- RST with the restart number `y`; its target is `y * 8` (R87, R290). -/
def Instr.rst (y : BitVec 3) : Instr :=
  match y.toNat with
  | 0 => .rst_00h | 1 => .rst_08h | 2 => .rst_10h | 3 => .rst_18h | 4 => .rst_20h | 5 => .rst_28h | 6 => .rst_30h | _ => .rst_38h

/-- The rotates and shifts of the extended table (R321 to R328). -/
def Instr.rotSlot : RotOp → Slot → Instr
  | .rlc, .b => .rlc_b | .rlc, .c => .rlc_c | .rlc, .d => .rlc_d | .rlc, .e => .rlc_e | .rlc, .h => .rlc_h | .rlc, .l => .rlc_l | .rlc, .mhl => .rlc_mhl | .rlc, .a => .rlc_a
  | .rrc, .b => .rrc_b | .rrc, .c => .rrc_c | .rrc, .d => .rrc_d | .rrc, .e => .rrc_e | .rrc, .h => .rrc_h | .rrc, .l => .rrc_l | .rrc, .mhl => .rrc_mhl | .rrc, .a => .rrc_a
  | .rl, .b => .rl_b | .rl, .c => .rl_c | .rl, .d => .rl_d | .rl, .e => .rl_e | .rl, .h => .rl_h | .rl, .l => .rl_l | .rl, .mhl => .rl_mhl | .rl, .a => .rl_a
  | .rr, .b => .rr_b | .rr, .c => .rr_c | .rr, .d => .rr_d | .rr, .e => .rr_e | .rr, .h => .rr_h | .rr, .l => .rr_l | .rr, .mhl => .rr_mhl | .rr, .a => .rr_a
  | .sla, .b => .sla_b | .sla, .c => .sla_c | .sla, .d => .sla_d | .sla, .e => .sla_e | .sla, .h => .sla_h | .sla, .l => .sla_l | .sla, .mhl => .sla_mhl | .sla, .a => .sla_a
  | .sra, .b => .sra_b | .sra, .c => .sra_c | .sra, .d => .sra_d | .sra, .e => .sra_e | .sra, .h => .sra_h | .sra, .l => .sra_l | .sra, .mhl => .sra_mhl | .sra, .a => .sra_a
  | .swap, .b => .swap_b | .swap, .c => .swap_c | .swap, .d => .swap_d | .swap, .e => .swap_e | .swap, .h => .swap_h | .swap, .l => .swap_l | .swap, .mhl => .swap_mhl | .swap, .a => .swap_a
  | .srl, .b => .srl_b | .srl, .c => .srl_c | .srl, .d => .srl_d | .srl, .e => .srl_e | .srl, .h => .srl_h | .srl, .l => .srl_l | .srl, .mhl => .srl_mhl | .srl, .a => .srl_a

/-- BIT b,slot (R329). -/
def Instr.bitSlot (b : BitVec 3) (s : Slot) : Instr :=
  match b.toNat, s with
  | 0, .b => .bit_0_b | 0, .c => .bit_0_c | 0, .d => .bit_0_d | 0, .e => .bit_0_e | 0, .h => .bit_0_h | 0, .l => .bit_0_l | 0, .mhl => .bit_0_mhl | 0, .a => .bit_0_a
  | 1, .b => .bit_1_b | 1, .c => .bit_1_c | 1, .d => .bit_1_d | 1, .e => .bit_1_e | 1, .h => .bit_1_h | 1, .l => .bit_1_l | 1, .mhl => .bit_1_mhl | 1, .a => .bit_1_a
  | 2, .b => .bit_2_b | 2, .c => .bit_2_c | 2, .d => .bit_2_d | 2, .e => .bit_2_e | 2, .h => .bit_2_h | 2, .l => .bit_2_l | 2, .mhl => .bit_2_mhl | 2, .a => .bit_2_a
  | 3, .b => .bit_3_b | 3, .c => .bit_3_c | 3, .d => .bit_3_d | 3, .e => .bit_3_e | 3, .h => .bit_3_h | 3, .l => .bit_3_l | 3, .mhl => .bit_3_mhl | 3, .a => .bit_3_a
  | 4, .b => .bit_4_b | 4, .c => .bit_4_c | 4, .d => .bit_4_d | 4, .e => .bit_4_e | 4, .h => .bit_4_h | 4, .l => .bit_4_l | 4, .mhl => .bit_4_mhl | 4, .a => .bit_4_a
  | 5, .b => .bit_5_b | 5, .c => .bit_5_c | 5, .d => .bit_5_d | 5, .e => .bit_5_e | 5, .h => .bit_5_h | 5, .l => .bit_5_l | 5, .mhl => .bit_5_mhl | 5, .a => .bit_5_a
  | 6, .b => .bit_6_b | 6, .c => .bit_6_c | 6, .d => .bit_6_d | 6, .e => .bit_6_e | 6, .h => .bit_6_h | 6, .l => .bit_6_l | 6, .mhl => .bit_6_mhl | 6, .a => .bit_6_a
  | _, .b => .bit_7_b | _, .c => .bit_7_c | _, .d => .bit_7_d | _, .e => .bit_7_e | _, .h => .bit_7_h | _, .l => .bit_7_l | _, .mhl => .bit_7_mhl | _, .a => .bit_7_a

/-- RES b,slot (R330). -/
def Instr.resSlot (b : BitVec 3) (s : Slot) : Instr :=
  match b.toNat, s with
  | 0, .b => .res_0_b | 0, .c => .res_0_c | 0, .d => .res_0_d | 0, .e => .res_0_e | 0, .h => .res_0_h | 0, .l => .res_0_l | 0, .mhl => .res_0_mhl | 0, .a => .res_0_a
  | 1, .b => .res_1_b | 1, .c => .res_1_c | 1, .d => .res_1_d | 1, .e => .res_1_e | 1, .h => .res_1_h | 1, .l => .res_1_l | 1, .mhl => .res_1_mhl | 1, .a => .res_1_a
  | 2, .b => .res_2_b | 2, .c => .res_2_c | 2, .d => .res_2_d | 2, .e => .res_2_e | 2, .h => .res_2_h | 2, .l => .res_2_l | 2, .mhl => .res_2_mhl | 2, .a => .res_2_a
  | 3, .b => .res_3_b | 3, .c => .res_3_c | 3, .d => .res_3_d | 3, .e => .res_3_e | 3, .h => .res_3_h | 3, .l => .res_3_l | 3, .mhl => .res_3_mhl | 3, .a => .res_3_a
  | 4, .b => .res_4_b | 4, .c => .res_4_c | 4, .d => .res_4_d | 4, .e => .res_4_e | 4, .h => .res_4_h | 4, .l => .res_4_l | 4, .mhl => .res_4_mhl | 4, .a => .res_4_a
  | 5, .b => .res_5_b | 5, .c => .res_5_c | 5, .d => .res_5_d | 5, .e => .res_5_e | 5, .h => .res_5_h | 5, .l => .res_5_l | 5, .mhl => .res_5_mhl | 5, .a => .res_5_a
  | 6, .b => .res_6_b | 6, .c => .res_6_c | 6, .d => .res_6_d | 6, .e => .res_6_e | 6, .h => .res_6_h | 6, .l => .res_6_l | 6, .mhl => .res_6_mhl | 6, .a => .res_6_a
  | _, .b => .res_7_b | _, .c => .res_7_c | _, .d => .res_7_d | _, .e => .res_7_e | _, .h => .res_7_h | _, .l => .res_7_l | _, .mhl => .res_7_mhl | _, .a => .res_7_a

/-- SET b,slot (R331). -/
def Instr.setSlot (b : BitVec 3) (s : Slot) : Instr :=
  match b.toNat, s with
  | 0, .b => .set_0_b | 0, .c => .set_0_c | 0, .d => .set_0_d | 0, .e => .set_0_e | 0, .h => .set_0_h | 0, .l => .set_0_l | 0, .mhl => .set_0_mhl | 0, .a => .set_0_a
  | 1, .b => .set_1_b | 1, .c => .set_1_c | 1, .d => .set_1_d | 1, .e => .set_1_e | 1, .h => .set_1_h | 1, .l => .set_1_l | 1, .mhl => .set_1_mhl | 1, .a => .set_1_a
  | 2, .b => .set_2_b | 2, .c => .set_2_c | 2, .d => .set_2_d | 2, .e => .set_2_e | 2, .h => .set_2_h | 2, .l => .set_2_l | 2, .mhl => .set_2_mhl | 2, .a => .set_2_a
  | 3, .b => .set_3_b | 3, .c => .set_3_c | 3, .d => .set_3_d | 3, .e => .set_3_e | 3, .h => .set_3_h | 3, .l => .set_3_l | 3, .mhl => .set_3_mhl | 3, .a => .set_3_a
  | 4, .b => .set_4_b | 4, .c => .set_4_c | 4, .d => .set_4_d | 4, .e => .set_4_e | 4, .h => .set_4_h | 4, .l => .set_4_l | 4, .mhl => .set_4_mhl | 4, .a => .set_4_a
  | 5, .b => .set_5_b | 5, .c => .set_5_c | 5, .d => .set_5_d | 5, .e => .set_5_e | 5, .h => .set_5_h | 5, .l => .set_5_l | 5, .mhl => .set_5_mhl | 5, .a => .set_5_a
  | 6, .b => .set_6_b | 6, .c => .set_6_c | 6, .d => .set_6_d | 6, .e => .set_6_e | 6, .h => .set_6_h | 6, .l => .set_6_l | 6, .mhl => .set_6_mhl | 6, .a => .set_6_a
  | _, .b => .set_7_b | _, .c => .set_7_c | _, .d => .set_7_d | _, .e => .set_7_e | _, .h => .set_7_h | _, .l => .set_7_l | _, .mhl => .set_7_mhl | _, .a => .set_7_a

/-! ## The decoder -/

/-- A row of the primary table: its format (R82) and, for the formats with operand bytes, the instruction
they complete. The one-byte PREFIX row (format FX) is an `f0` here: nothing follows it (R94). -/
inductive Form where
  | f0 (i : Instr)
  | f1 (k : Byte → Instr)
  | f2 (k : Byte → Instr)
  | f3 (k : Word → Instr)

/-- Why a decoder answers no instruction. -/
inductive DecodeError where
  /-- the byte list ends inside the instruction; no fetch from memory does (R80) -/
  | truncated
  /-- the opcode is in no dispatch stage: the unhandled class of R93, empty under the default parameters -/
  | unhandled (op : Byte)
  deriving DecidableEq, Repr

/-- The individually enumerated rows of R90, one list per value of the high nibble; the bands (0x40 to 0xBF), the
illegal values and the prefix hold nothing here. -/
def enumeratedRows (hi : Nat) : List (Option Form) :=
  match hi with
  | 0 => [some (.f0 .nop), some (.f3 .ld_bc_d16), some (.f0 .ld_mbc_a), some (.f0 .inc_bc),
      some (.f0 .inc_b), some (.f0 .dec_b), some (.f1 .ld_b_d8), some (.f0 .rlca),
      some (.f3 .ld_ma16_sp), some (.f0 .add_hl_bc), some (.f0 .ld_a_mbc), some (.f0 .dec_bc),
      some (.f0 .inc_c), some (.f0 .dec_c), some (.f1 .ld_c_d8), some (.f0 .rrca)]
  | 1 => [some (.f0 .stop), some (.f3 .ld_de_d16), some (.f0 .ld_mde_a), some (.f0 .inc_de),
      some (.f0 .inc_d), some (.f0 .dec_d), some (.f1 .ld_d_d8), some (.f0 .rla),
      some (.f2 .jr_e8), some (.f0 .add_hl_de), some (.f0 .ld_a_mde), some (.f0 .dec_de),
      some (.f0 .inc_e), some (.f0 .dec_e), some (.f1 .ld_e_d8), some (.f0 .rra)]
  | 2 => [some (.f2 .jr_nz_e8), some (.f3 .ld_hl_d16), some (.f0 .ld_mhli_a), some (.f0 .inc_hl),
      some (.f0 .inc_h), some (.f0 .dec_h), some (.f1 .ld_h_d8), some (.f0 .daa),
      some (.f2 .jr_z_e8), some (.f0 .add_hl_hl), some (.f0 .ld_a_mhli), some (.f0 .dec_hl),
      some (.f0 .inc_l), some (.f0 .dec_l), some (.f1 .ld_l_d8), some (.f0 .cpl)]
  | 3 => [some (.f2 .jr_nc_e8), some (.f3 .ld_sp_d16), some (.f0 .ld_mhld_a), some (.f0 .inc_sp),
      some (.f0 .inc_mhl), some (.f0 .dec_mhl), some (.f1 .ld_mhl_d8), some (.f0 .scf),
      some (.f2 .jr_c_e8), some (.f0 .add_hl_sp), some (.f0 .ld_a_mhld), some (.f0 .dec_sp),
      some (.f0 .inc_a), some (.f0 .dec_a), some (.f1 .ld_a_d8), some (.f0 .ccf)]
  | 12 => [some (.f0 .ret_nz), some (.f0 .pop_bc), some (.f3 .jp_nz_a16), some (.f3 .jp_a16),
      some (.f3 .call_nz_a16), some (.f0 .push_bc), some (.f1 .add_a_d8), some (.f0 .rst_00h),
      some (.f0 .ret_z), some (.f0 .ret), some (.f3 .jp_z_a16), none,
      some (.f3 .call_z_a16), some (.f3 .call_a16), some (.f1 .adc_a_d8), some (.f0 .rst_08h)]
  | 13 => [some (.f0 .ret_nc), some (.f0 .pop_de), some (.f3 .jp_nc_a16), none,
      some (.f3 .call_nc_a16), some (.f0 .push_de), some (.f1 .sub_d8), some (.f0 .rst_10h),
      some (.f0 .ret_c), some (.f0 .reti), some (.f3 .jp_c_a16), none,
      some (.f3 .call_c_a16), none, some (.f1 .sbc_a_d8), some (.f0 .rst_18h)]
  | 14 => [some (.f1 .ldh_ma8_a), some (.f0 .pop_hl), some (.f0 .ld_mc_a), none,
      none, some (.f0 .push_hl), some (.f1 .and_d8), some (.f0 .rst_20h),
      some (.f2 .add_sp_e8), some (.f0 .jp_hl), some (.f3 .ld_ma16_a), none,
      none, none, some (.f1 .xor_d8), some (.f0 .rst_28h)]
  | 15 => [some (.f1 .ldh_a_ma8), some (.f0 .pop_af), some (.f0 .ld_a_mc), some (.f0 .di),
      none, some (.f0 .push_af), some (.f1 .or_d8), some (.f0 .rst_30h),
      some (.f2 .ld_hl_sp_e8), some (.f0 .ld_sp_hl), some (.f3 .ld_a_ma16), some (.f0 .ei),
      none, none, some (.f1 .cp_d8), some (.f0 .rst_38h)]
  | _ => []

/-- The enumerated row of an opcode byte. -/
def enumerated (op : Byte) : Option Form :=
  (((enumeratedRows (op.toNat / 16))[op.toNat % 16]?).getD none)

/-- The row an illegal opcode value has, for the eleven values of the table (R92). -/
def illegalRow (op : Byte) : Option Form :=
  match op.toNat with
  | 0xD3 => some (.f0 .illegal_d3)
  | 0xDB => some (.f0 .illegal_db)
  | 0xDD => some (.f0 .illegal_dd)
  | 0xE3 => some (.f0 .illegal_e3)
  | 0xE4 => some (.f0 .illegal_e4)
  | 0xEB => some (.f0 .illegal_eb)
  | 0xEC => some (.f0 .illegal_ec)
  | 0xED => some (.f0 .illegal_ed)
  | 0xF4 => some (.f0 .illegal_f4)
  | 0xFC => some (.f0 .illegal_fc)
  | 0xFD => some (.f0 .illegal_fd)
  | _ => none

/-- The row of an opcode byte, by the order of dispatch of R89: prefix, illegal set, (unhandled), load band, ALU
band, enumerated entry. `none` is the unhandled class; an illegal value without a row of its own is put there,
where its effect is the same (R305, R306; log entry 7). -/
def primaryRow (c : Config) (op : Byte) : Option Form :=
  if op = c.prefixOp then some (.f0 .prefix_cb)
  else if c.illegalSet.contains op then illegalRow op
  else if c.unhandledPrimary.contains op then none
  else if fieldX op = 1 then some (.f0 (Instr.ldBand (Slot.ofCode (fieldY op)) (Slot.ofCode (fieldZ op))))
  else if fieldX op = 2 then some (.f0 (Instr.aluBand (AluOp.ofCode (fieldY op)) (Slot.ofCode (fieldZ op))))
  else enumerated op

/-- Reads one primary instruction from the front of a byte list; operand bytes ascend, low byte first (R88). -/
def decode (c : Config) : List Byte → Except DecodeError (Instr × List Byte)
  | [] => .error .truncated
  | op :: rest =>
    match primaryRow c op, rest with
    | none, _ => .error (.unhandled op)
    | some (.f0 i), rest => .ok (i, rest)
    | some (.f1 k), n :: rest => .ok (k n, rest)
    | some (.f2 k), n :: rest => .ok (k n, rest)
    | some (.f3 k), lo :: hi :: rest => .ok (k (wordOf hi lo), rest)
    | some (.f1 _), [] => .error .truncated
    | some (.f2 _), [] => .error .truncated
    | some (.f3 _), [] => .error .truncated
    | some (.f3 _), [_] => .error .truncated

/-- The row of the extended table for `op2` (R91): every value has one. -/
def extendedRow (op2 : Byte) : Instr :=
  if fieldX op2 = 0 then Instr.rotSlot (RotOp.ofCode (fieldY op2)) (Slot.ofCode (fieldZ op2))
  else if fieldX op2 = 1 then Instr.bitSlot (fieldY op2) (Slot.ofCode (fieldZ op2))
  else if fieldX op2 = 2 then Instr.resSlot (fieldY op2) (Slot.ofCode (fieldZ op2))
  else Instr.setSlot (fieldY op2) (Slot.ofCode (fieldZ op2))

/-- Reads one extended opcode, the argument `op2` of ExecExt, from the front of a byte list (R91, R93). -/
def decodeExt (c : Config) : List Byte → Except DecodeError (Instr × List Byte)
  | [] => .error .truncated
  | op2 :: rest =>
    if c.unhandledExt.contains op2 then .error (.unhandled op2) else .ok (extendedRow op2, rest)

/-- The decoder of a table. -/
def decodeIn (c : Config) : Table → List Byte → Except DecodeError (Instr × List Byte)
  | .primary => decode c
  | .extended => decodeExt c

/-! ## The encoder -/

/-- The bytes of an instruction, in ascending addresses (R80, R82, R88): opcode, then operands, low byte first. An
extended instruction's one byte is its `op2` (R91). -/
def encode : Instr → List Byte
  | .nop => [0x00]
  | .ld_bc_d16 n => [0x01, loByte n, hiByte n]
  | .ld_mbc_a => [0x02]
  | .inc_bc => [0x03]
  | .inc_b => [0x04]
  | .dec_b => [0x05]
  | .ld_b_d8 n => [0x06, n]
  | .rlca => [0x07]
  | .ld_ma16_sp n => [0x08, loByte n, hiByte n]
  | .add_hl_bc => [0x09]
  | .ld_a_mbc => [0x0A]
  | .dec_bc => [0x0B]
  | .inc_c => [0x0C]
  | .dec_c => [0x0D]
  | .ld_c_d8 n => [0x0E, n]
  | .rrca => [0x0F]
  | .stop => [0x10]
  | .ld_de_d16 n => [0x11, loByte n, hiByte n]
  | .ld_mde_a => [0x12]
  | .inc_de => [0x13]
  | .inc_d => [0x14]
  | .dec_d => [0x15]
  | .ld_d_d8 n => [0x16, n]
  | .rla => [0x17]
  | .jr_e8 n => [0x18, n]
  | .add_hl_de => [0x19]
  | .ld_a_mde => [0x1A]
  | .dec_de => [0x1B]
  | .inc_e => [0x1C]
  | .dec_e => [0x1D]
  | .ld_e_d8 n => [0x1E, n]
  | .rra => [0x1F]
  | .jr_nz_e8 n => [0x20, n]
  | .ld_hl_d16 n => [0x21, loByte n, hiByte n]
  | .ld_mhli_a => [0x22]
  | .inc_hl => [0x23]
  | .inc_h => [0x24]
  | .dec_h => [0x25]
  | .ld_h_d8 n => [0x26, n]
  | .daa => [0x27]
  | .jr_z_e8 n => [0x28, n]
  | .add_hl_hl => [0x29]
  | .ld_a_mhli => [0x2A]
  | .dec_hl => [0x2B]
  | .inc_l => [0x2C]
  | .dec_l => [0x2D]
  | .ld_l_d8 n => [0x2E, n]
  | .cpl => [0x2F]
  | .jr_nc_e8 n => [0x30, n]
  | .ld_sp_d16 n => [0x31, loByte n, hiByte n]
  | .ld_mhld_a => [0x32]
  | .inc_sp => [0x33]
  | .inc_mhl => [0x34]
  | .dec_mhl => [0x35]
  | .ld_mhl_d8 n => [0x36, n]
  | .scf => [0x37]
  | .jr_c_e8 n => [0x38, n]
  | .add_hl_sp => [0x39]
  | .ld_a_mhld => [0x3A]
  | .dec_sp => [0x3B]
  | .inc_a => [0x3C]
  | .dec_a => [0x3D]
  | .ld_a_d8 n => [0x3E, n]
  | .ccf => [0x3F]
  | .ld_b_b => [0x40]
  | .ld_b_c => [0x41]
  | .ld_b_d => [0x42]
  | .ld_b_e => [0x43]
  | .ld_b_h => [0x44]
  | .ld_b_l => [0x45]
  | .ld_b_mhl => [0x46]
  | .ld_b_a => [0x47]
  | .ld_c_b => [0x48]
  | .ld_c_c => [0x49]
  | .ld_c_d => [0x4A]
  | .ld_c_e => [0x4B]
  | .ld_c_h => [0x4C]
  | .ld_c_l => [0x4D]
  | .ld_c_mhl => [0x4E]
  | .ld_c_a => [0x4F]
  | .ld_d_b => [0x50]
  | .ld_d_c => [0x51]
  | .ld_d_d => [0x52]
  | .ld_d_e => [0x53]
  | .ld_d_h => [0x54]
  | .ld_d_l => [0x55]
  | .ld_d_mhl => [0x56]
  | .ld_d_a => [0x57]
  | .ld_e_b => [0x58]
  | .ld_e_c => [0x59]
  | .ld_e_d => [0x5A]
  | .ld_e_e => [0x5B]
  | .ld_e_h => [0x5C]
  | .ld_e_l => [0x5D]
  | .ld_e_mhl => [0x5E]
  | .ld_e_a => [0x5F]
  | .ld_h_b => [0x60]
  | .ld_h_c => [0x61]
  | .ld_h_d => [0x62]
  | .ld_h_e => [0x63]
  | .ld_h_h => [0x64]
  | .ld_h_l => [0x65]
  | .ld_h_mhl => [0x66]
  | .ld_h_a => [0x67]
  | .ld_l_b => [0x68]
  | .ld_l_c => [0x69]
  | .ld_l_d => [0x6A]
  | .ld_l_e => [0x6B]
  | .ld_l_h => [0x6C]
  | .ld_l_l => [0x6D]
  | .ld_l_mhl => [0x6E]
  | .ld_l_a => [0x6F]
  | .ld_mhl_b => [0x70]
  | .ld_mhl_c => [0x71]
  | .ld_mhl_d => [0x72]
  | .ld_mhl_e => [0x73]
  | .ld_mhl_h => [0x74]
  | .ld_mhl_l => [0x75]
  | .ld_mhl_mhl => [0x76]
  | .ld_mhl_a => [0x77]
  | .ld_a_b => [0x78]
  | .ld_a_c => [0x79]
  | .ld_a_d => [0x7A]
  | .ld_a_e => [0x7B]
  | .ld_a_h => [0x7C]
  | .ld_a_l => [0x7D]
  | .ld_a_mhl => [0x7E]
  | .ld_a_a => [0x7F]
  | .add_a_b => [0x80]
  | .add_a_c => [0x81]
  | .add_a_d => [0x82]
  | .add_a_e => [0x83]
  | .add_a_h => [0x84]
  | .add_a_l => [0x85]
  | .add_a_mhl => [0x86]
  | .add_a_a => [0x87]
  | .adc_a_b => [0x88]
  | .adc_a_c => [0x89]
  | .adc_a_d => [0x8A]
  | .adc_a_e => [0x8B]
  | .adc_a_h => [0x8C]
  | .adc_a_l => [0x8D]
  | .adc_a_mhl => [0x8E]
  | .adc_a_a => [0x8F]
  | .sub_b => [0x90]
  | .sub_c => [0x91]
  | .sub_d => [0x92]
  | .sub_e => [0x93]
  | .sub_h => [0x94]
  | .sub_l => [0x95]
  | .sub_mhl => [0x96]
  | .sub_a => [0x97]
  | .sbc_a_b => [0x98]
  | .sbc_a_c => [0x99]
  | .sbc_a_d => [0x9A]
  | .sbc_a_e => [0x9B]
  | .sbc_a_h => [0x9C]
  | .sbc_a_l => [0x9D]
  | .sbc_a_mhl => [0x9E]
  | .sbc_a_a => [0x9F]
  | .and_b => [0xA0]
  | .and_c => [0xA1]
  | .and_d => [0xA2]
  | .and_e => [0xA3]
  | .and_h => [0xA4]
  | .and_l => [0xA5]
  | .and_mhl => [0xA6]
  | .and_a => [0xA7]
  | .xor_b => [0xA8]
  | .xor_c => [0xA9]
  | .xor_d => [0xAA]
  | .xor_e => [0xAB]
  | .xor_h => [0xAC]
  | .xor_l => [0xAD]
  | .xor_mhl => [0xAE]
  | .xor_a => [0xAF]
  | .or_b => [0xB0]
  | .or_c => [0xB1]
  | .or_d => [0xB2]
  | .or_e => [0xB3]
  | .or_h => [0xB4]
  | .or_l => [0xB5]
  | .or_mhl => [0xB6]
  | .or_a => [0xB7]
  | .cp_b => [0xB8]
  | .cp_c => [0xB9]
  | .cp_d => [0xBA]
  | .cp_e => [0xBB]
  | .cp_h => [0xBC]
  | .cp_l => [0xBD]
  | .cp_mhl => [0xBE]
  | .cp_a => [0xBF]
  | .ret_nz => [0xC0]
  | .pop_bc => [0xC1]
  | .jp_nz_a16 n => [0xC2, loByte n, hiByte n]
  | .jp_a16 n => [0xC3, loByte n, hiByte n]
  | .call_nz_a16 n => [0xC4, loByte n, hiByte n]
  | .push_bc => [0xC5]
  | .add_a_d8 n => [0xC6, n]
  | .rst_00h => [0xC7]
  | .ret_z => [0xC8]
  | .ret => [0xC9]
  | .jp_z_a16 n => [0xCA, loByte n, hiByte n]
  | .prefix_cb => [0xCB]
  | .call_z_a16 n => [0xCC, loByte n, hiByte n]
  | .call_a16 n => [0xCD, loByte n, hiByte n]
  | .adc_a_d8 n => [0xCE, n]
  | .rst_08h => [0xCF]
  | .ret_nc => [0xD0]
  | .pop_de => [0xD1]
  | .jp_nc_a16 n => [0xD2, loByte n, hiByte n]
  | .illegal_d3 => [0xD3]
  | .call_nc_a16 n => [0xD4, loByte n, hiByte n]
  | .push_de => [0xD5]
  | .sub_d8 n => [0xD6, n]
  | .rst_10h => [0xD7]
  | .ret_c => [0xD8]
  | .reti => [0xD9]
  | .jp_c_a16 n => [0xDA, loByte n, hiByte n]
  | .illegal_db => [0xDB]
  | .call_c_a16 n => [0xDC, loByte n, hiByte n]
  | .illegal_dd => [0xDD]
  | .sbc_a_d8 n => [0xDE, n]
  | .rst_18h => [0xDF]
  | .ldh_ma8_a n => [0xE0, n]
  | .pop_hl => [0xE1]
  | .ld_mc_a => [0xE2]
  | .illegal_e3 => [0xE3]
  | .illegal_e4 => [0xE4]
  | .push_hl => [0xE5]
  | .and_d8 n => [0xE6, n]
  | .rst_20h => [0xE7]
  | .add_sp_e8 n => [0xE8, n]
  | .jp_hl => [0xE9]
  | .ld_ma16_a n => [0xEA, loByte n, hiByte n]
  | .illegal_eb => [0xEB]
  | .illegal_ec => [0xEC]
  | .illegal_ed => [0xED]
  | .xor_d8 n => [0xEE, n]
  | .rst_28h => [0xEF]
  | .ldh_a_ma8 n => [0xF0, n]
  | .pop_af => [0xF1]
  | .ld_a_mc => [0xF2]
  | .di => [0xF3]
  | .illegal_f4 => [0xF4]
  | .push_af => [0xF5]
  | .or_d8 n => [0xF6, n]
  | .rst_30h => [0xF7]
  | .ld_hl_sp_e8 n => [0xF8, n]
  | .ld_sp_hl => [0xF9]
  | .ld_a_ma16 n => [0xFA, loByte n, hiByte n]
  | .ei => [0xFB]
  | .illegal_fc => [0xFC]
  | .illegal_fd => [0xFD]
  | .cp_d8 n => [0xFE, n]
  | .rst_38h => [0xFF]
  | .rlc_b => [0x00]
  | .rlc_c => [0x01]
  | .rlc_d => [0x02]
  | .rlc_e => [0x03]
  | .rlc_h => [0x04]
  | .rlc_l => [0x05]
  | .rlc_mhl => [0x06]
  | .rlc_a => [0x07]
  | .rrc_b => [0x08]
  | .rrc_c => [0x09]
  | .rrc_d => [0x0A]
  | .rrc_e => [0x0B]
  | .rrc_h => [0x0C]
  | .rrc_l => [0x0D]
  | .rrc_mhl => [0x0E]
  | .rrc_a => [0x0F]
  | .rl_b => [0x10]
  | .rl_c => [0x11]
  | .rl_d => [0x12]
  | .rl_e => [0x13]
  | .rl_h => [0x14]
  | .rl_l => [0x15]
  | .rl_mhl => [0x16]
  | .rl_a => [0x17]
  | .rr_b => [0x18]
  | .rr_c => [0x19]
  | .rr_d => [0x1A]
  | .rr_e => [0x1B]
  | .rr_h => [0x1C]
  | .rr_l => [0x1D]
  | .rr_mhl => [0x1E]
  | .rr_a => [0x1F]
  | .sla_b => [0x20]
  | .sla_c => [0x21]
  | .sla_d => [0x22]
  | .sla_e => [0x23]
  | .sla_h => [0x24]
  | .sla_l => [0x25]
  | .sla_mhl => [0x26]
  | .sla_a => [0x27]
  | .sra_b => [0x28]
  | .sra_c => [0x29]
  | .sra_d => [0x2A]
  | .sra_e => [0x2B]
  | .sra_h => [0x2C]
  | .sra_l => [0x2D]
  | .sra_mhl => [0x2E]
  | .sra_a => [0x2F]
  | .swap_b => [0x30]
  | .swap_c => [0x31]
  | .swap_d => [0x32]
  | .swap_e => [0x33]
  | .swap_h => [0x34]
  | .swap_l => [0x35]
  | .swap_mhl => [0x36]
  | .swap_a => [0x37]
  | .srl_b => [0x38]
  | .srl_c => [0x39]
  | .srl_d => [0x3A]
  | .srl_e => [0x3B]
  | .srl_h => [0x3C]
  | .srl_l => [0x3D]
  | .srl_mhl => [0x3E]
  | .srl_a => [0x3F]
  | .bit_0_b => [0x40]
  | .bit_0_c => [0x41]
  | .bit_0_d => [0x42]
  | .bit_0_e => [0x43]
  | .bit_0_h => [0x44]
  | .bit_0_l => [0x45]
  | .bit_0_mhl => [0x46]
  | .bit_0_a => [0x47]
  | .bit_1_b => [0x48]
  | .bit_1_c => [0x49]
  | .bit_1_d => [0x4A]
  | .bit_1_e => [0x4B]
  | .bit_1_h => [0x4C]
  | .bit_1_l => [0x4D]
  | .bit_1_mhl => [0x4E]
  | .bit_1_a => [0x4F]
  | .bit_2_b => [0x50]
  | .bit_2_c => [0x51]
  | .bit_2_d => [0x52]
  | .bit_2_e => [0x53]
  | .bit_2_h => [0x54]
  | .bit_2_l => [0x55]
  | .bit_2_mhl => [0x56]
  | .bit_2_a => [0x57]
  | .bit_3_b => [0x58]
  | .bit_3_c => [0x59]
  | .bit_3_d => [0x5A]
  | .bit_3_e => [0x5B]
  | .bit_3_h => [0x5C]
  | .bit_3_l => [0x5D]
  | .bit_3_mhl => [0x5E]
  | .bit_3_a => [0x5F]
  | .bit_4_b => [0x60]
  | .bit_4_c => [0x61]
  | .bit_4_d => [0x62]
  | .bit_4_e => [0x63]
  | .bit_4_h => [0x64]
  | .bit_4_l => [0x65]
  | .bit_4_mhl => [0x66]
  | .bit_4_a => [0x67]
  | .bit_5_b => [0x68]
  | .bit_5_c => [0x69]
  | .bit_5_d => [0x6A]
  | .bit_5_e => [0x6B]
  | .bit_5_h => [0x6C]
  | .bit_5_l => [0x6D]
  | .bit_5_mhl => [0x6E]
  | .bit_5_a => [0x6F]
  | .bit_6_b => [0x70]
  | .bit_6_c => [0x71]
  | .bit_6_d => [0x72]
  | .bit_6_e => [0x73]
  | .bit_6_h => [0x74]
  | .bit_6_l => [0x75]
  | .bit_6_mhl => [0x76]
  | .bit_6_a => [0x77]
  | .bit_7_b => [0x78]
  | .bit_7_c => [0x79]
  | .bit_7_d => [0x7A]
  | .bit_7_e => [0x7B]
  | .bit_7_h => [0x7C]
  | .bit_7_l => [0x7D]
  | .bit_7_mhl => [0x7E]
  | .bit_7_a => [0x7F]
  | .res_0_b => [0x80]
  | .res_0_c => [0x81]
  | .res_0_d => [0x82]
  | .res_0_e => [0x83]
  | .res_0_h => [0x84]
  | .res_0_l => [0x85]
  | .res_0_mhl => [0x86]
  | .res_0_a => [0x87]
  | .res_1_b => [0x88]
  | .res_1_c => [0x89]
  | .res_1_d => [0x8A]
  | .res_1_e => [0x8B]
  | .res_1_h => [0x8C]
  | .res_1_l => [0x8D]
  | .res_1_mhl => [0x8E]
  | .res_1_a => [0x8F]
  | .res_2_b => [0x90]
  | .res_2_c => [0x91]
  | .res_2_d => [0x92]
  | .res_2_e => [0x93]
  | .res_2_h => [0x94]
  | .res_2_l => [0x95]
  | .res_2_mhl => [0x96]
  | .res_2_a => [0x97]
  | .res_3_b => [0x98]
  | .res_3_c => [0x99]
  | .res_3_d => [0x9A]
  | .res_3_e => [0x9B]
  | .res_3_h => [0x9C]
  | .res_3_l => [0x9D]
  | .res_3_mhl => [0x9E]
  | .res_3_a => [0x9F]
  | .res_4_b => [0xA0]
  | .res_4_c => [0xA1]
  | .res_4_d => [0xA2]
  | .res_4_e => [0xA3]
  | .res_4_h => [0xA4]
  | .res_4_l => [0xA5]
  | .res_4_mhl => [0xA6]
  | .res_4_a => [0xA7]
  | .res_5_b => [0xA8]
  | .res_5_c => [0xA9]
  | .res_5_d => [0xAA]
  | .res_5_e => [0xAB]
  | .res_5_h => [0xAC]
  | .res_5_l => [0xAD]
  | .res_5_mhl => [0xAE]
  | .res_5_a => [0xAF]
  | .res_6_b => [0xB0]
  | .res_6_c => [0xB1]
  | .res_6_d => [0xB2]
  | .res_6_e => [0xB3]
  | .res_6_h => [0xB4]
  | .res_6_l => [0xB5]
  | .res_6_mhl => [0xB6]
  | .res_6_a => [0xB7]
  | .res_7_b => [0xB8]
  | .res_7_c => [0xB9]
  | .res_7_d => [0xBA]
  | .res_7_e => [0xBB]
  | .res_7_h => [0xBC]
  | .res_7_l => [0xBD]
  | .res_7_mhl => [0xBE]
  | .res_7_a => [0xBF]
  | .set_0_b => [0xC0]
  | .set_0_c => [0xC1]
  | .set_0_d => [0xC2]
  | .set_0_e => [0xC3]
  | .set_0_h => [0xC4]
  | .set_0_l => [0xC5]
  | .set_0_mhl => [0xC6]
  | .set_0_a => [0xC7]
  | .set_1_b => [0xC8]
  | .set_1_c => [0xC9]
  | .set_1_d => [0xCA]
  | .set_1_e => [0xCB]
  | .set_1_h => [0xCC]
  | .set_1_l => [0xCD]
  | .set_1_mhl => [0xCE]
  | .set_1_a => [0xCF]
  | .set_2_b => [0xD0]
  | .set_2_c => [0xD1]
  | .set_2_d => [0xD2]
  | .set_2_e => [0xD3]
  | .set_2_h => [0xD4]
  | .set_2_l => [0xD5]
  | .set_2_mhl => [0xD6]
  | .set_2_a => [0xD7]
  | .set_3_b => [0xD8]
  | .set_3_c => [0xD9]
  | .set_3_d => [0xDA]
  | .set_3_e => [0xDB]
  | .set_3_h => [0xDC]
  | .set_3_l => [0xDD]
  | .set_3_mhl => [0xDE]
  | .set_3_a => [0xDF]
  | .set_4_b => [0xE0]
  | .set_4_c => [0xE1]
  | .set_4_d => [0xE2]
  | .set_4_e => [0xE3]
  | .set_4_h => [0xE4]
  | .set_4_l => [0xE5]
  | .set_4_mhl => [0xE6]
  | .set_4_a => [0xE7]
  | .set_5_b => [0xE8]
  | .set_5_c => [0xE9]
  | .set_5_d => [0xEA]
  | .set_5_e => [0xEB]
  | .set_5_h => [0xEC]
  | .set_5_l => [0xED]
  | .set_5_mhl => [0xEE]
  | .set_5_a => [0xEF]
  | .set_6_b => [0xF0]
  | .set_6_c => [0xF1]
  | .set_6_d => [0xF2]
  | .set_6_e => [0xF3]
  | .set_6_h => [0xF4]
  | .set_6_l => [0xF5]
  | .set_6_mhl => [0xF6]
  | .set_6_a => [0xF7]
  | .set_7_b => [0xF8]
  | .set_7_c => [0xF9]
  | .set_7_d => [0xFA]
  | .set_7_e => [0xFB]
  | .set_7_h => [0xFC]
  | .set_7_l => [0xFD]
  | .set_7_mhl => [0xFE]
  | .set_7_a => [0xFF]

/-! ## The host's question about a word of the opcode table -/

/-- The three bytes of an instruction whose bits are `w`, numbered as spec/opcode_table.json numbers them: bits
7..0 are the first byte; every bit from `nbits` up is 0. -/
def tableBytes (nbits w : Nat) : List Byte :=
  let v := w % 2 ^ nbits
  [BitVec.ofNat 8 v, BitVec.ofNat 8 (v / 256), BitVec.ofNat 8 (v / 65536)]

/-- The instruction a program's decoder reads from that word. It is the primary decoder: a program reaches no
extended row by its opcode byte (R94, R332; log entry 6). -/
def decodeTableWord (nbits w : Nat) : Option Instr :=
  match decode Config.jgameboy (tableBytes nbits w) with
  | .ok (i, _) => some i
  | .error _ => none

end Sys2Proof
end

