-- ==== Sys2Proof/Machine/State.lean ====
section
/-! DEFINITION. The state of the machine, 10_state.md, as plain data; the reasons a step can stop; the state after reset. -/

namespace Sys2Proof.Machine

/-- Memory: (address, byte) pairs, addresses strictly rising, no entry equal to what an unlisted address reads as
(`Memory.wf`, Machine/Ops.lean). -/
abbrev Memory := List Host.Cell

/-- The four condition flags, four independent booleans (R21): Zero, Carry, HalfCarry, Negate. -/
structure Flags where
  z : Bool
  c : Bool
  h : Bool
  n : Bool
  deriving DecidableEq, Repr

/-- All the state the spec gives the machine (10_state.md): seven registers (R20), four flags (R21), `pc` (R25),
`sp` (R26), the latches `running` (R27) and `ime` (R28), and memory (R30). F, AF, BC, DE and HL are derived (R22, R23). -/
structure State where
  a       : Byte
  b       : Byte
  c       : Byte
  d       : Byte
  e       : Byte
  h       : Byte
  l       : Byte
  flags   : Flags
  pc      : Word
  sp      : Word
  running : Bool
  ime     : Bool
  mem     : Memory
  deriving DecidableEq, Repr

/-- Why a step answers a fault. -/
inductive Fault where
  /-- Raised by `step` in a state with `running` clear: the run has ended and no step exists from it (R140, R152).
  Safe: the model says nothing of a host that keeps stepping. -/
  | runEnded
  deriving DecidableEq, Repr

/-- Why a step refuses an instruction. -/
inductive Refusal where
  /-- Raised by `exec`'s arm of an instruction that has no meaning yet; no arm does. Safe. -/
  | notModelled (mnemonic : String)
  deriving DecidableEq, Repr

/-- What a meaning answers. -/
abbrev Result := Host.Outcome State Fault Refusal

/-- The machine right after construction and reset (R34, R380), with the empty image (log entry 1): AF = 0x01B0,
BC = 0x0013, DE = 0x00D8, HL = 0x014D, pc = 0x0100, sp = 0xFFFE, ime = 0, running = 1. Memory lists nothing: an
unlisted address reads as reset leaves it (`Memory.unlisted`). -/
def State.reset : State where
  a       := 0x01
  b       := 0x00
  c       := 0x13
  d       := 0x00
  e       := 0xD8
  h       := 0x01
  l       := 0x4D
  flags   := { z := true, c := false, h := true, n := true }
  pc      := 0x0100
  sp      := 0xFFFE
  running := true
  ime     := false
  mem     := []

end Sys2Proof.Machine
end

