-- ==== Sys2Proof/Machine/Ops.lean ====
section
/-! DEFINITION. The named operations over memory and registers: byte and word access (20_memory.md), the derived pairs and the flags byte (10_state.md R22 to R24), pc sequencing (41_step.md R145), the stack primitives (R147, R148), construction and reset (70_reset_and_hazards.md), and fetch (R142, R146). The machine takes no exception and returns from none (R350, R355, R356), so no such operation exists; RETI is a RET that also sets `ime` (R289). -/

namespace Sys2Proof.Machine

/-! ## Memory -/

/-- The 31 pairs `reset()` writes (R382). -/
def resetTable : List Host.Cell :=
  [(0xFF05, 0x00), (0xFF06, 0x00), (0xFF07, 0x00), (0xFF10, 0x80), (0xFF11, 0xBF), (0xFF12, 0xF3),
   (0xFF14, 0xBF), (0xFF16, 0x3F), (0xFF17, 0x00), (0xFF19, 0xBF), (0xFF1A, 0x7F), (0xFF1B, 0xFF),
   (0xFF1C, 0x9F), (0xFF1E, 0xBF), (0xFF20, 0xFF), (0xFF21, 0x00), (0xFF22, 0x00), (0xFF23, 0xBF),
   (0xFF24, 0x77), (0xFF25, 0xF3), (0xFF26, 0xF1), (0xFF40, 0x91), (0xFF42, 0x00), (0xFF43, 0x00),
   (0xFF45, 0x00), (0xFF47, 0xFC), (0xFF48, 0xFF), (0xFF49, 0xFF), (0xFF4A, 0x00), (0xFF4B, 0x00),
   (0xFFFF, 0x00)]

/-- The value a list of cells gives an address, if it has one. -/
def lookupCell (a : Nat) : List Host.Cell → Option Byte
  | [] => none
  | (k, v) :: rest => if k = a then some v else lookupCell a rest

/-- What an address nothing has written reads as: its value in the reset table, else the 0x00 of the zero fill
(R34, R66, R382). -/
def Memory.unlisted (a : Nat) : Byte := (lookupCell a resetTable).getD 0

/-- The canonical form: addresses of the space strictly rising, no entry equal to what its address reads as unlisted. -/
abbrev Memory.wf (m : Memory) : Prop :=
  m.Pairwise (fun x y => x.1 < y.1) ∧ ∀ x ∈ m, x.1 < 65536 ∧ x.2 ≠ Memory.unlisted x.1

/-- The byte at an address. -/
def Memory.read : Memory → Nat → Byte
  | [], a => Memory.unlisted a
  | (k, v) :: rest, a => if k = a then v else Memory.read rest a

/-- Memory with the byte at an address replaced, in canonical form. -/
def Memory.write : Memory → Nat → Byte → Memory
  | [], a, v => if v = Memory.unlisted a then [] else [(a, v)]
  | (k, w) :: rest, a, v =>
    if a < k then (if v = Memory.unlisted a then (k, w) :: rest else (a, v) :: (k, w) :: rest)
    else if a = k then (if v = Memory.unlisted a then rest else (a, v) :: rest)
    else (k, w) :: Memory.write rest a v

/-- `MemRead(addr, 1)` (R51). -/
def State.readByte (s : State) (addr : Word) : Byte := s.mem.read addr.toNat

/-- `MemWrite(addr, 1, v)` (R52). -/
def State.writeByte (s : State) (addr : Word) (v : Byte) : State :=
  { s with mem := s.mem.write addr.toNat v }

/-- `MemRead(addr, 2)` (R53): low byte at `addr`, high byte at `addr + 1` mod 2^16. -/
def State.readWord (s : State) (addr : Word) : Word :=
  wordOf (s.readByte (addr + 1)) (s.readByte addr)

/-- `MemWrite(addr, 2, v)` (R53): low byte first. -/
def State.writeWord (s : State) (addr v : Word) : State :=
  (s.writeByte addr (loByte v)).writeByte (addr + 1) (hiByte v)

/-- Bytes written at ascending addresses from `addr`, wrapping mod 2^16. -/
def State.writeBytes (s : State) (addr : Word) : List Byte → State
  | [] => s
  | v :: rest => State.writeBytes (s.writeByte addr v) (addr + 1) rest

/-! ## Registers and derived pairs -/

/-- A general register (R20). -/
def State.getReg (s : State) : Reg → Byte
  | .a => s.a | .b => s.b | .c => s.c | .d => s.d | .e => s.e | .h => s.h | .l => s.l

/-- A write of a general register (R20). -/
def State.setReg (s : State) (r : Reg) (v : Byte) : State :=
  match r with
  | .a => { s with a := v }
  | .b => { s with b := v }
  | .c => { s with c := v }
  | .d => { s with d := v }
  | .e => { s with e := v }
  | .h => { s with h := v }
  | .l => { s with l := v }

/-- The four flags written together. -/
def State.setFlags (s : State) (f : Flags) : State := { s with flags := f }

/-- `F = {fZ, fC, fH, fN, 0b0000}` (R22): bit 7 Zero, bit 6 Carry, bit 5 HalfCarry, bit 4 Negate. -/
def Flags.pack (f : Flags) : Byte :=
  BitVec.ofBool f.z ++ BitVec.ofBool f.c ++ BitVec.ofBool f.h ++ BitVec.ofBool f.n ++ 0#4

/-- A write of a byte to F (R22): bits 7 to 4 go to the flags, bits 3 to 0 are dropped. -/
def Flags.unpack (v : Byte) : Flags :=
  { z := v.getLsbD 7, c := v.getLsbD 6, h := v.getLsbD 5, n := v.getLsbD 4 }

/-- The pair BC (R23). -/
def State.bc (s : State) : Word := wordOf s.b s.c
/-- The pair DE (R23). -/
def State.de (s : State) : Word := wordOf s.d s.e
/-- The pair HL (R23). -/
def State.hl (s : State) : Word := wordOf s.h s.l
/-- The pair AF (R22, R23). -/
def State.af (s : State) : Word := wordOf s.a s.flags.pack

/-- A write of BC (R23). -/
def State.setBC (s : State) (v : Word) : State := { s with b := hiByte v, c := loByte v }
/-- A write of DE (R23). -/
def State.setDE (s : State) (v : Word) : State := { s with d := hiByte v, e := loByte v }
/-- A write of HL (R23). -/
def State.setHL (s : State) (v : Word) : State := { s with h := hiByte v, l := loByte v }
/-- A write of AF (R24). -/
def State.setAF (s : State) (v : Word) : State :=
  { s with a := hiByte v, flags := Flags.unpack (loByte v) }
/-- A write of `sp` (R26). -/
def State.setSP (s : State) (v : Word) : State := { s with sp := v }

/-- A write of the `running` latch (R27). -/
def State.setRunning (s : State) (v : Bool) : State := { s with running := v }
/-- A write of the `ime` latch (R28). -/
def State.setIme (s : State) (v : Bool) : State := { s with ime := v }

/-! ## Program counter (R145) -/

/-- `pc <- pc0 + len`, for an instruction that transfers no control. -/
def State.advance (s : State) (len : Word) : State := { s with pc := s.pc + len }

/-- `pc <- t`: the next step fetches at `t`. -/
def State.jump (s : State) (t : Word) : State := { s with pc := t }

/-! ## Stack primitives -/

/-- `Push16(v)` (R147): high byte, then low byte, `sp` decremented before each. -/
def State.push16 (s : State) (v : Word) : State :=
  let s1 := s.setSP (s.sp - 1)
  let s2 := s1.writeByte s1.sp (hiByte v)
  let s3 := s2.setSP (s2.sp - 1)
  s3.writeByte s3.sp (loByte v)

/-- The word `Pop16()` answers (R148): low byte at `sp`, high byte at `sp + 1`. -/
def State.topWord (s : State) : Word := wordOf (s.readByte (s.sp + 1)) (s.readByte s.sp)

/-- What `Pop16()` does to the state (R148): `sp` rises by 1 after each byte read. -/
def State.dropWord (s : State) : State := (s.setSP (s.sp + 1)).setSP (s.sp + 1 + 1)

/-! ## Fetch (R142, R146) -/

/-- The bytes of the longest instruction from `pc`: opcode and two possible operand bytes, ascending mod 2^16.
Reads have no side effect (R51, R56), so reading all three when fewer are needed cannot be observed. -/
def State.fetchBytes (s : State) : List Byte :=
  [s.readByte s.pc, s.readByte (s.pc + 1), s.readByte (s.pc + 2)]

/-- The instruction at `pc`; `none` is the unhandled class (R93, R144). -/
def State.fetch (s : State) : Option Instr :=
  match decode Config.jgameboy s.fetchBytes with
  | .ok (i, _) => some i
  | .error _ => none

/-- An unhandled opcode (R306): reported, `pc <- pc0 + 1`, nothing else. -/
def State.unhandled (s : State) : State := s.advance 1

/-! ## Construction and reset (70_reset_and_hazards.md) -/

/-- The cells of a list written in order. -/
def Memory.writeCells (m : Memory) : List Host.Cell → Memory
  | [] => m
  | (a, v) :: rest => Memory.writeCells (m.write a v) rest

/-- `reset()` (R381, R382, R383): the registers and latches, then the 31 cells; every other cell as it was. -/
def State.resetOp (s : State) : State :=
  { State.reset with mem := s.mem.writeCells resetTable }

/-- The cells of an image from address `a` on (R66). -/
def imageCells (a : Nat) : List Byte → List Host.Cell
  | [] => []
  | v :: rest => (a, v) :: imageCells (a + 1) rest

/-- The zero-filled memory of R66: every cell 0x00. -/
def Memory.zeroed : Memory := Memory.writeCells [] (resetTable.map fun x => (x.1, 0))

/-- Power-on (R380): zero-filled memory, the first `min(len, 65536)` image bytes from address 0 (R66), then `reset()`. -/
def State.construct (image : List Byte) : State :=
  State.resetOp { State.reset with mem := Memory.zeroed.writeCells (imageCells 0 (image.take 65536)) }

end Sys2Proof.Machine
end

