-- ==== Sys2Proof/Machine/Operands.lean ====
section
/-! DEFINITION. Operand forms: the eight slots (R83, R149), the pair selectors (R84), the conditions (R85, R151), signed offsets (R88) and high-page addresses (R88). -/

namespace Sys2Proof.Machine

/-- `sext_16(v)` (R9). -/
def sext16 (v : Byte) : Word := v.signExtend 16

/-- `0xFF00 + v`: the page of the LDH and (C) forms (R88, R184 to R187). -/
def highPage (v : Byte) : Word := 0xFF00 + v.setWidth 16

/-- The register of a slot; slot 6 has none (R83). -/
def slotReg : Slot → Option Reg
  | .b => some .b | .c => some .c | .d => some .d | .e => some .e
  | .h => some .h | .l => some .l | .mhl => none | .a => some .a

/-- `ReadSlot(i)` (R149). -/
def State.readSlot (s : State) (i : Slot) : Byte :=
  match slotReg i with
  | some r => s.getReg r
  | none => s.readByte s.hl

/-- `WriteSlot(i, v)` (R149). -/
def State.writeSlot (s : State) (i : Slot) (v : Byte) : State :=
  match slotReg i with
  | some r => s.setReg r v
  | none => s.writeByte s.hl v

/-- `rp[p]` (R84). -/
def State.getPair (s : State) : Pair → Word
  | .bc => s.bc | .de => s.de | .hl => s.hl | .sp => s.sp

/-- A write of `rp[p]` (R84). -/
def State.setPair (s : State) (p : Pair) (v : Word) : State :=
  match p with
  | .bc => s.setBC v | .de => s.setDE v | .hl => s.setHL v | .sp => s.setSP v

/-- `rp2[p]` (R84). -/
def State.getStackPair (s : State) : StackPair → Word
  | .bc => s.bc | .de => s.de | .hl => s.hl | .af => s.af

/-- A write of `rp2[p]` (R84; AF by R24). -/
def State.setStackPair (s : State) (p : StackPair) (v : Word) : State :=
  match p with
  | .bc => s.setBC v | .de => s.setDE v | .hl => s.setHL v | .af => s.setAF v

/-- `Cond(cc)` (R85, R151), on the flags as the step begins. -/
def State.cond (s : State) : Cond → Bool
  | .nz => !s.flags.z
  | .z => s.flags.z
  | .nc => !s.flags.c
  | .c => s.flags.c

end Sys2Proof.Machine
end

