-- ==== Sys2Proof/Machine/Flags.lean ====
section
/-! DEFINITION. The ALU and bit-operation helpers of 40_alu_helpers.md: each answers its value, reduced to width, and the flags it writes, computed from the unmasked integers. -/

namespace Sys2Proof.Machine.Alu

/-- `x[i]` of an integer, possibly negative or wide: `floor(x / 2^i) mod 2` (R7). -/
def bitOf (x : Int) (i : Nat) : Bool := x / ((2 ^ i : Nat) : Int) % 2 == 1

/-- A flag as the integer it adds. -/
def carryIn (c : Bool) : Int := if c then 1 else 0

/-- A byte as an integer. -/
def intOf (v : Byte) : Int := (v.toNat : Int)

/-- `add(a, b)` (R110): Zero from the unmasked sum, HalfCarry from bit 3 of the sum and of `b`. -/
def add (a b : Int) : Byte × Flags :=
  let sum := a + b
  (BitVec.ofInt 8 sum, { z := sum == 0, c := bitOf sum 8, h := bitOf sum 3 && bitOf b 3, n := false })

/-- `adc(a, b)` (R111). -/
def adc (fold : CarryFold) (cin : Bool) (a b : Int) : Byte × Flags :=
  match fold with
  | .intoA => add (a + carryIn cin) b
  | .intoB => add a (b + carryIn cin)

/-- `sub(a, b)` (R112). -/
def sub (a b : Int) : Byte × Flags :=
  let diff := a - b
  (BitVec.ofInt 8 diff, { z := diff == 0, c := decide (diff < 0), h := !bitOf a 3 && bitOf b 3, n := true })

/-- `sbc(a, b)` (R113). -/
def sbc (fold : CarryFold) (cin : Bool) (a b : Int) : Byte × Flags :=
  match fold with
  | .intoA => sub (a - carryIn cin) b
  | .intoB => sub a (b + carryIn cin)

/-- `cp(a, b)` (R114): the flags of `sub`, the value `a`. -/
def cp (a b : Byte) : Byte × Flags := (a, (sub (intOf a) (intOf b)).2)

/-- `and(a, b)` (R115). -/
def and (a b : Byte) : Byte × Flags :=
  let r := a &&& b
  (r, { z := r == 0, c := false, h := true, n := false })

/-- `or(a, b)` (R116). -/
def or (a b : Byte) : Byte × Flags :=
  let r := a ||| b
  (r, { z := r == 0, c := false, h := false, n := false })

/-- `xor(a, b)` (R117). -/
def xor (a b : Byte) : Byte × Flags :=
  let r := a ^^^ b
  (r, { z := r == 0, c := false, h := false, n := false })

/-- The eight operations of the ALU band (R86), the accumulator as `a`. -/
def apply (c : Config) (op : AluOp) (f : Flags) (a b : Byte) : Byte × Flags :=
  match op with
  | .add => add (intOf a) (intOf b)
  | .adc => adc c.carryFold f.c (intOf a) (intOf b)
  | .sub => sub (intOf a) (intOf b)
  | .sbc => sbc c.carryFold f.c (intOf a) (intOf b)
  | .and => and a b
  | .xor => xor a b
  | .or => or a b
  | .cp => cp a b

/-- `inc(v)` (R118): HalfCarry from the low nibble before, Carry kept. -/
def inc (f : Flags) (v : Byte) : Byte × Flags :=
  let r := v + 1
  (r, { z := r == 0, c := f.c, h := v.extractLsb' 0 4 == 0xF, n := false })

/-- `dec(v)` (R119). -/
def dec (f : Flags) (v : Byte) : Byte × Flags :=
  let r := v - 1
  (r, { z := r == 0, c := f.c, h := v.extractLsb' 0 4 == 0x0, n := true })

/-- `add16(a, b)` (R120): HalfCarry from bit 11 of the sum and of `b`, Zero kept. -/
def add16 (f : Flags) (a b : Word) : Word × Flags :=
  let sum : Int := (a.toNat : Int) + (b.toNat : Int)
  (BitVec.ofInt 16 sum,
    { z := f.z, c := bitOf sum 16, h := bitOf sum 11 && bitOf (b.toNat : Int) 11, n := false })

/-- `sp + sext_16(e8)` and its flags (R213, R273): the carries out of bits 3 and 7 of the unsigned low-byte sum. -/
def spPlus (sp : Word) (e8 : Byte) : Word × Flags :=
  (sp + sext16 e8,
    { z := false,
      c := decide (255 < (loByte sp).toNat + e8.toNat),
      h := decide (15 < (sp.extractLsb' 0 4).toNat + (e8.extractLsb' 0 4).toNat),
      n := false })

/-- `rlc(v)` (R121). -/
def rlc (v : Byte) : Byte × Flags :=
  let r : Byte := v.extractLsb' 0 7 ++ v.extractLsb' 7 1
  (r, { z := r == 0, c := v.getLsbD 7, h := false, n := false })

/-- `rl(v)` (R122). -/
def rl (f : Flags) (v : Byte) : Byte × Flags :=
  let r : Byte := v.extractLsb' 0 7 ++ BitVec.ofBool f.c
  (r, { z := r == 0, c := v.getLsbD 7, h := false, n := false })

/-- `rrc(v)` (R123). -/
def rrc (v : Byte) : Byte × Flags :=
  let r : Byte := v.extractLsb' 0 1 ++ v.extractLsb' 1 7
  (r, { z := r == 0, c := v.getLsbD 0, h := false, n := false })

/-- `rr(v)` (R124). -/
def rr (f : Flags) (v : Byte) : Byte × Flags :=
  let r : Byte := BitVec.ofBool f.c ++ v.extractLsb' 1 7
  (r, { z := r == 0, c := v.getLsbD 0, h := false, n := false })

/-- `sla(v)` (R125): Zero is not written. -/
def sla (f : Flags) (v : Byte) : Byte × Flags :=
  (v.extractLsb' 0 7 ++ 0#1, { z := f.z, c := v.getLsbD 7, h := false, n := false })

/-- `sra(v)` (R126): bit 7 kept, Zero not written. -/
def sra (f : Flags) (v : Byte) : Byte × Flags :=
  (v.extractLsb' 7 1 ++ v.extractLsb' 1 7, { z := f.z, c := v.getLsbD 0, h := false, n := false })

/-- Zero by a `ZeroRule` (R127, R128). -/
def zeroBy (rule : ZeroRule) (old : Bool) (r : Byte) : Bool :=
  match rule with
  | .result => r == 0
  | .unchanged => old

/-- `srl(v)` (R127). -/
def srl (c : Config) (f : Flags) (v : Byte) : Byte × Flags :=
  let r : Byte := 0#1 ++ v.extractLsb' 1 7
  (r, { z := zeroBy c.srlZ f.z r, c := v.getLsbD 0, h := false, n := false })

/-- Carry after swap (R128). -/
def swapCarry (c : Config) (f : Flags) : Bool :=
  match c.swapC with
  | .cleared => false
  | .unchanged => f.c

/-- `swap(v)` (R128). -/
def swap (c : Config) (f : Flags) (v : Byte) : Byte × Flags :=
  let r : Byte := v.extractLsb' 0 4 ++ v.extractLsb' 4 4
  (r, { z := zeroBy c.swapZ f.z r, c := swapCarry c f, h := false, n := false })

/-- `ROT[y]` (R320). -/
def rotate (c : Config) (op : RotOp) (f : Flags) (v : Byte) : Byte × Flags :=
  match op with
  | .rlc => rlc v
  | .rrc => rrc v
  | .rl => rl f v
  | .rr => rr f v
  | .sla => sla f v
  | .sra => sra f v
  | .swap => swap c f v
  | .srl => srl c f v

/-- Zero after an accumulator rotate (R250 to R253). -/
def rotaFlags (c : Config) (f : Flags) : Flags :=
  match c.rotaZ with
  | .helper => f
  | .cleared => { f with z := false }

/-- `testBit(v, n)` (R129): HalfCarry is cleared, Carry kept. -/
def testBit (f : Flags) (v : Byte) (n : Nat) : Flags :=
  { z := !v.getLsbD n, c := f.c, h := false, n := false }

/-- `setBit(v, n, on)` (R130). -/
def setBit (v : Byte) (n : Nat) (on : Bool) : Byte :=
  if on then v ||| ((1 : Byte) <<< n) else v &&& ~~~((1 : Byte) <<< n)

end Sys2Proof.Machine.Alu
end

