-- ==== Sys2Proof/Machine/Alu16.lean ====
section
/-! DEFINITION. 16-bit arithmetic (45_alu16.md, R270 to R273). -/

namespace Sys2Proof.Machine

/-- ADD HL,rr (R270): `a` is HL, `b` is the pair. -/
def State.addHL (s : State) (p : Pair) : State :=
  let r := Alu.add16 s.flags s.hl (s.getPair p)
  ((s.setHL r.1).setFlags r.2).advance 1

/-- ADD SP,e8 (R273). -/
def State.addSP (s : State) (e8 : Byte) : State :=
  let r := Alu.spPlus s.sp e8
  ((s.setSP r.1).setFlags r.2).advance 2

/-- ADD HL,BC (0x09), R270. -/
def exec_add_hl_bc (s : State) : Result := .next (s.addHL .bc)

/-- ADD HL,DE (0x19), R270. -/
def exec_add_hl_de (s : State) : Result := .next (s.addHL .de)

/-- ADD HL,HL (0x29), R270. -/
def exec_add_hl_hl (s : State) : Result := .next (s.addHL .hl)

/-- ADD HL,SP (0x39), R270. -/
def exec_add_hl_sp (s : State) : Result := .next (s.addHL .sp)

/-- INC BC (0x03), R271. -/
def exec_inc_bc (s : State) : Result := .next ((s.setPair .bc (s.getPair .bc + 1)).advance 1)

/-- INC DE (0x13), R271. -/
def exec_inc_de (s : State) : Result := .next ((s.setPair .de (s.getPair .de + 1)).advance 1)

/-- INC HL (0x23), R271. -/
def exec_inc_hl (s : State) : Result := .next ((s.setPair .hl (s.getPair .hl + 1)).advance 1)

/-- INC SP (0x33), R271. -/
def exec_inc_sp (s : State) : Result := .next ((s.setPair .sp (s.getPair .sp + 1)).advance 1)

/-- DEC BC (0x0B), R272. -/
def exec_dec_bc (s : State) : Result := .next ((s.setPair .bc (s.getPair .bc - 1)).advance 1)

/-- DEC DE (0x1B), R272. -/
def exec_dec_de (s : State) : Result := .next ((s.setPair .de (s.getPair .de - 1)).advance 1)

/-- DEC HL (0x2B), R272. -/
def exec_dec_hl (s : State) : Result := .next ((s.setPair .hl (s.getPair .hl - 1)).advance 1)

/-- DEC SP (0x3B), R272. -/
def exec_dec_sp (s : State) : Result := .next ((s.setPair .sp (s.getPair .sp - 1)).advance 1)

/-- ADD SP,e8 (0xE8), R273. -/
def exec_add_sp_e8 (n : Byte) (s : State) : Result := .next (s.addSP n)

end Sys2Proof.Machine
end

