-- ==== Sys2Proof/Machine/Control.lean ====
section
/-! DEFINITION. Control transfer (46_control.md, R280 to R290). No instruction here writes a flag. -/

namespace Sys2Proof.Machine

/-- The target of a relative jump: the address of the following instruction plus the signed offset (R283). -/
def State.relTarget (s : State) (e8 : Byte) : Word := s.pc + 2 + sext16 e8

/-- A conditional jump of `len` bytes (R281, R284). -/
def State.jumpIf (s : State) (cc : Cond) (t len : Word) : State :=
  if s.cond cc then s.jump t else s.advance len

/-- A call by an instruction of `len` bytes: `Push16(pc0 + len) ; pc <- t` (R285, R290). -/
def State.call (s : State) (t len : Word) : State := (s.push16 (s.pc + len)).jump t

/-- CALL cc,a16 (R286). -/
def State.callIf (s : State) (cc : Cond) (t : Word) : State :=
  if s.cond cc then s.call t 3 else s.advance 3

/-- RET: `pc <- Pop16()` (R287). -/
def State.ret (s : State) : State := s.dropWord.jump s.topWord

/-- Whether RET cc clears `ime` (R288): it is the one the parameters select, and it is taken or they say always. -/
def State.retClearsIme (s : State) (c : Config) (cc : Cond) : Bool :=
  cc == c.retccImeClear && (s.cond cc || c.retccWhen == .always)

/-- RET cc (R288). -/
def State.retIf (s : State) (c : Config) (cc : Cond) : State :=
  let s' := if s.retClearsIme c cc then s.setIme false else s
  if s.cond cc then s'.ret else s'.advance 1

/-- RST t: `Push16(pc0 + 1) ; pc <- t ; ime <- 0` (R290). -/
def State.restart (s : State) (t : Word) : State := (s.call t 1).setIme false

/-- JP a16 (0xC3), R280. -/
def exec_jp_a16 (n : Word) (s : State) : Result := .next (s.jump n)

/-- JP NZ,a16 (0xC2), R281. -/
def exec_jp_nz_a16 (n : Word) (s : State) : Result := .next (s.jumpIf .nz n 3)

/-- JP Z,a16 (0xCA), R281. -/
def exec_jp_z_a16 (n : Word) (s : State) : Result := .next (s.jumpIf .z n 3)

/-- JP NC,a16 (0xD2), R281. -/
def exec_jp_nc_a16 (n : Word) (s : State) : Result := .next (s.jumpIf .nc n 3)

/-- JP C,a16 (0xDA), R281. -/
def exec_jp_c_a16 (n : Word) (s : State) : Result := .next (s.jumpIf .c n 3)

/-- JP (HL) (0xE9), R282. -/
def exec_jp_hl (s : State) : Result := .next (s.jump s.hl)

/-- JR e8 (0x18), R283. -/
def exec_jr_e8 (n : Byte) (s : State) : Result := .next (s.jump (s.relTarget n))

/-- JR NZ,e8 (0x20), R284. -/
def exec_jr_nz_e8 (n : Byte) (s : State) : Result := .next (s.jumpIf .nz (s.relTarget n) 2)

/-- JR Z,e8 (0x28), R284. -/
def exec_jr_z_e8 (n : Byte) (s : State) : Result := .next (s.jumpIf .z (s.relTarget n) 2)

/-- JR NC,e8 (0x30), R284. -/
def exec_jr_nc_e8 (n : Byte) (s : State) : Result := .next (s.jumpIf .nc (s.relTarget n) 2)

/-- JR C,e8 (0x38), R284. -/
def exec_jr_c_e8 (n : Byte) (s : State) : Result := .next (s.jumpIf .c (s.relTarget n) 2)

/-- CALL a16 (0xCD), R285. -/
def exec_call_a16 (n : Word) (s : State) : Result := .next (s.call n 3)

/-- CALL NZ,a16 (0xC4), R286. -/
def exec_call_nz_a16 (n : Word) (s : State) : Result := .next (s.callIf .nz n)

/-- CALL Z,a16 (0xCC), R286. -/
def exec_call_z_a16 (n : Word) (s : State) : Result := .next (s.callIf .z n)

/-- CALL NC,a16 (0xD4), R286. -/
def exec_call_nc_a16 (n : Word) (s : State) : Result := .next (s.callIf .nc n)

/-- CALL C,a16 (0xDC), R286. -/
def exec_call_c_a16 (n : Word) (s : State) : Result := .next (s.callIf .c n)

/-- RET (0xC9), R287. -/
def exec_ret (s : State) : Result := .next (s.ret)

/-- RET NZ (0xC0), R288. -/
def exec_ret_nz (s : State) : Result := .next (s.retIf Config.jgameboy .nz)

/-- RET Z (0xC8), R288. -/
def exec_ret_z (s : State) : Result := .next (s.retIf Config.jgameboy .z)

/-- RET NC (0xD0), R288. -/
def exec_ret_nc (s : State) : Result := .next (s.retIf Config.jgameboy .nc)

/-- RET C (0xD8), R288. -/
def exec_ret_c (s : State) : Result := .next (s.retIf Config.jgameboy .c)

/-- RETI (0xD9), R289. -/
def exec_reti (s : State) : Result := .next (s.ret.setIme true)

/-- RST 00H (0xC7), R290. -/
def exec_rst_00h (s : State) : Result := .next (s.restart 0x00)

/-- RST 08H (0xCF), R290. -/
def exec_rst_08h (s : State) : Result := .next (s.restart 0x08)

/-- RST 10H (0xD7), R290. -/
def exec_rst_10h (s : State) : Result := .next (s.restart 0x10)

/-- RST 18H (0xDF), R290. -/
def exec_rst_18h (s : State) : Result := .next (s.restart 0x18)

/-- RST 20H (0xE7), R290. -/
def exec_rst_20h (s : State) : Result := .next (s.restart 0x20)

/-- RST 28H (0xEF), R290. -/
def exec_rst_28h (s : State) : Result := .next (s.restart 0x28)

/-- RST 30H (0xF7), R290. -/
def exec_rst_30h (s : State) : Result := .next (s.restart 0x30)

/-- RST 38H (0xFF), R290. -/
def exec_rst_38h (s : State) : Result := .next (s.restart 0x38)

end Sys2Proof.Machine
end

