-- ==== Sys2Proof/Machine/Loads16.lean ====
section
/-! DEFINITION. 16-bit loads and the stack (43_loads16_stack.md, R210 to R217). -/

namespace Sys2Proof.Machine

/-- LD HL,SP+e8 (R213): `sp` is unchanged, all four flags are written. -/
def State.loadHLSP (s : State) (e8 : Byte) : State :=
  let r := Alu.spPlus s.sp e8
  ((s.setHL r.1).setFlags r.2).advance 2

/-- PUSH (R214, R215). -/
def State.pushPair (s : State) (p : StackPair) : State := (s.push16 (s.getStackPair p)).advance 1

/-- POP (R216, R217). -/
def State.popPair (s : State) (p : StackPair) : State :=
  (s.dropWord.setStackPair p s.topWord).advance 1

/-- LD BC,d16 (0x01), R210. -/
def exec_ld_bc_d16 (n : Word) (s : State) : Result := .next ((s.setPair .bc n).advance 3)

/-- LD DE,d16 (0x11), R210. -/
def exec_ld_de_d16 (n : Word) (s : State) : Result := .next ((s.setPair .de n).advance 3)

/-- LD HL,d16 (0x21), R210. -/
def exec_ld_hl_d16 (n : Word) (s : State) : Result := .next ((s.setPair .hl n).advance 3)

/-- LD SP,d16 (0x31), R210. -/
def exec_ld_sp_d16 (n : Word) (s : State) : Result := .next ((s.setPair .sp n).advance 3)

/-- LD (a16),SP (0x08), R211. -/
def exec_ld_ma16_sp (n : Word) (s : State) : Result := .next ((s.writeWord n s.sp).advance 3)

/-- LD SP,HL (0xF9), R212. -/
def exec_ld_sp_hl (s : State) : Result := .next ((s.setSP s.hl).advance 1)

/-- LD HL,SP+e8 (0xF8), R213. -/
def exec_ld_hl_sp_e8 (n : Byte) (s : State) : Result := .next (s.loadHLSP n)

/-- PUSH BC (0xC5), R214. -/
def exec_push_bc (s : State) : Result := .next (s.pushPair .bc)

/-- PUSH DE (0xD5), R214. -/
def exec_push_de (s : State) : Result := .next (s.pushPair .de)

/-- PUSH HL (0xE5), R214. -/
def exec_push_hl (s : State) : Result := .next (s.pushPair .hl)

/-- PUSH AF (0xF5), R215. -/
def exec_push_af (s : State) : Result := .next (s.pushPair .af)

/-- POP BC (0xC1), R216. -/
def exec_pop_bc (s : State) : Result := .next (s.popPair .bc)

/-- POP DE (0xD1), R216. -/
def exec_pop_de (s : State) : Result := .next (s.popPair .de)

/-- POP HL (0xE1), R216. -/
def exec_pop_hl (s : State) : Result := .next (s.popPair .hl)

/-- POP AF (0xF1), R217. -/
def exec_pop_af (s : State) : Result := .next (s.popPair .af)

end Sys2Proof.Machine
end

