-- ==== Sys2Proof/Machine/Loads8.lean ====
section
/-! DEFINITION. 8-bit loads (42_loads8.md, R170 to R189): the shared operations, then one meaning per row. No load writes a flag. -/

namespace Sys2Proof.Machine

/-- `WriteSlot(dst, ReadSlot(src))` and the advance of a one-byte instruction (R170 to R173). -/
def State.loadSlot (s : State) (dst src : Slot) : State := (s.writeSlot dst (s.readSlot src)).advance 1

/-- Opcode 0x76 (R173): the band entry LD (HL),(HL), or, under `OP76 = halt`, the end of the run. -/
def State.op76 (s : State) (c : Config) : State :=
  match c.op76 with
  | .bandMove => s.loadSlot .mhl .mhl
  | .halt => (s.setRunning false).advance 1

/-- `WriteSlot(dst, d8)` (R174, R175). -/
def State.loadImm (s : State) (dst : Slot) (n : Byte) : State := (s.writeSlot dst n).advance 2

/-- A store of A by an instruction of `len` bytes (R176, R177, R180, R181, R184, R186, R188). -/
def State.storeA (s : State) (addr len : Word) : State := (s.writeByte addr s.a).advance len

/-- A load of A by an instruction of `len` bytes (R178, R179, R182, R183, R185, R187, R189). -/
def State.loadA (s : State) (addr len : Word) : State := (s.setReg .a (s.readByte addr)).advance len

/-- LD B,B (0x40), R170. -/
def exec_ld_b_b (s : State) : Result := .next (s.loadSlot .b .b)

/-- LD B,C (0x41), R170. -/
def exec_ld_b_c (s : State) : Result := .next (s.loadSlot .b .c)

/-- LD B,D (0x42), R170. -/
def exec_ld_b_d (s : State) : Result := .next (s.loadSlot .b .d)

/-- LD B,E (0x43), R170. -/
def exec_ld_b_e (s : State) : Result := .next (s.loadSlot .b .e)

/-- LD B,H (0x44), R170. -/
def exec_ld_b_h (s : State) : Result := .next (s.loadSlot .b .h)

/-- LD B,L (0x45), R170. -/
def exec_ld_b_l (s : State) : Result := .next (s.loadSlot .b .l)

/-- LD B,(HL) (0x46), R171. -/
def exec_ld_b_mhl (s : State) : Result := .next (s.loadSlot .b .mhl)

/-- LD B,A (0x47), R170. -/
def exec_ld_b_a (s : State) : Result := .next (s.loadSlot .b .a)

/-- LD C,B (0x48), R170. -/
def exec_ld_c_b (s : State) : Result := .next (s.loadSlot .c .b)

/-- LD C,C (0x49), R170. -/
def exec_ld_c_c (s : State) : Result := .next (s.loadSlot .c .c)

/-- LD C,D (0x4A), R170. -/
def exec_ld_c_d (s : State) : Result := .next (s.loadSlot .c .d)

/-- LD C,E (0x4B), R170. -/
def exec_ld_c_e (s : State) : Result := .next (s.loadSlot .c .e)

/-- LD C,H (0x4C), R170. -/
def exec_ld_c_h (s : State) : Result := .next (s.loadSlot .c .h)

/-- LD C,L (0x4D), R170. -/
def exec_ld_c_l (s : State) : Result := .next (s.loadSlot .c .l)

/-- LD C,(HL) (0x4E), R171. -/
def exec_ld_c_mhl (s : State) : Result := .next (s.loadSlot .c .mhl)

/-- LD C,A (0x4F), R170. -/
def exec_ld_c_a (s : State) : Result := .next (s.loadSlot .c .a)

/-- LD D,B (0x50), R170. -/
def exec_ld_d_b (s : State) : Result := .next (s.loadSlot .d .b)

/-- LD D,C (0x51), R170. -/
def exec_ld_d_c (s : State) : Result := .next (s.loadSlot .d .c)

/-- LD D,D (0x52), R170. -/
def exec_ld_d_d (s : State) : Result := .next (s.loadSlot .d .d)

/-- LD D,E (0x53), R170. -/
def exec_ld_d_e (s : State) : Result := .next (s.loadSlot .d .e)

/-- LD D,H (0x54), R170. -/
def exec_ld_d_h (s : State) : Result := .next (s.loadSlot .d .h)

/-- LD D,L (0x55), R170. -/
def exec_ld_d_l (s : State) : Result := .next (s.loadSlot .d .l)

/-- LD D,(HL) (0x56), R171. -/
def exec_ld_d_mhl (s : State) : Result := .next (s.loadSlot .d .mhl)

/-- LD D,A (0x57), R170. -/
def exec_ld_d_a (s : State) : Result := .next (s.loadSlot .d .a)

/-- LD E,B (0x58), R170. -/
def exec_ld_e_b (s : State) : Result := .next (s.loadSlot .e .b)

/-- LD E,C (0x59), R170. -/
def exec_ld_e_c (s : State) : Result := .next (s.loadSlot .e .c)

/-- LD E,D (0x5A), R170. -/
def exec_ld_e_d (s : State) : Result := .next (s.loadSlot .e .d)

/-- LD E,E (0x5B), R170. -/
def exec_ld_e_e (s : State) : Result := .next (s.loadSlot .e .e)

/-- LD E,H (0x5C), R170. -/
def exec_ld_e_h (s : State) : Result := .next (s.loadSlot .e .h)

/-- LD E,L (0x5D), R170. -/
def exec_ld_e_l (s : State) : Result := .next (s.loadSlot .e .l)

/-- LD E,(HL) (0x5E), R171. -/
def exec_ld_e_mhl (s : State) : Result := .next (s.loadSlot .e .mhl)

/-- LD E,A (0x5F), R170. -/
def exec_ld_e_a (s : State) : Result := .next (s.loadSlot .e .a)

/-- LD H,B (0x60), R170. -/
def exec_ld_h_b (s : State) : Result := .next (s.loadSlot .h .b)

/-- LD H,C (0x61), R170. -/
def exec_ld_h_c (s : State) : Result := .next (s.loadSlot .h .c)

/-- LD H,D (0x62), R170. -/
def exec_ld_h_d (s : State) : Result := .next (s.loadSlot .h .d)

/-- LD H,E (0x63), R170. -/
def exec_ld_h_e (s : State) : Result := .next (s.loadSlot .h .e)

/-- LD H,H (0x64), R170. -/
def exec_ld_h_h (s : State) : Result := .next (s.loadSlot .h .h)

/-- LD H,L (0x65), R170. -/
def exec_ld_h_l (s : State) : Result := .next (s.loadSlot .h .l)

/-- LD H,(HL) (0x66), R171. -/
def exec_ld_h_mhl (s : State) : Result := .next (s.loadSlot .h .mhl)

/-- LD H,A (0x67), R170. -/
def exec_ld_h_a (s : State) : Result := .next (s.loadSlot .h .a)

/-- LD L,B (0x68), R170. -/
def exec_ld_l_b (s : State) : Result := .next (s.loadSlot .l .b)

/-- LD L,C (0x69), R170. -/
def exec_ld_l_c (s : State) : Result := .next (s.loadSlot .l .c)

/-- LD L,D (0x6A), R170. -/
def exec_ld_l_d (s : State) : Result := .next (s.loadSlot .l .d)

/-- LD L,E (0x6B), R170. -/
def exec_ld_l_e (s : State) : Result := .next (s.loadSlot .l .e)

/-- LD L,H (0x6C), R170. -/
def exec_ld_l_h (s : State) : Result := .next (s.loadSlot .l .h)

/-- LD L,L (0x6D), R170. -/
def exec_ld_l_l (s : State) : Result := .next (s.loadSlot .l .l)

/-- LD L,(HL) (0x6E), R171. -/
def exec_ld_l_mhl (s : State) : Result := .next (s.loadSlot .l .mhl)

/-- LD L,A (0x6F), R170. -/
def exec_ld_l_a (s : State) : Result := .next (s.loadSlot .l .a)

/-- LD (HL),B (0x70), R172. -/
def exec_ld_mhl_b (s : State) : Result := .next (s.loadSlot .mhl .b)

/-- LD (HL),C (0x71), R172. -/
def exec_ld_mhl_c (s : State) : Result := .next (s.loadSlot .mhl .c)

/-- LD (HL),D (0x72), R172. -/
def exec_ld_mhl_d (s : State) : Result := .next (s.loadSlot .mhl .d)

/-- LD (HL),E (0x73), R172. -/
def exec_ld_mhl_e (s : State) : Result := .next (s.loadSlot .mhl .e)

/-- LD (HL),H (0x74), R172. -/
def exec_ld_mhl_h (s : State) : Result := .next (s.loadSlot .mhl .h)

/-- LD (HL),L (0x75), R172. -/
def exec_ld_mhl_l (s : State) : Result := .next (s.loadSlot .mhl .l)

/-- LD (HL),(HL) (0x76), R173. -/
def exec_ld_mhl_mhl (s : State) : Result := .next (s.op76 Config.jgameboy)

/-- LD (HL),A (0x77), R172. -/
def exec_ld_mhl_a (s : State) : Result := .next (s.loadSlot .mhl .a)

/-- LD A,B (0x78), R170. -/
def exec_ld_a_b (s : State) : Result := .next (s.loadSlot .a .b)

/-- LD A,C (0x79), R170. -/
def exec_ld_a_c (s : State) : Result := .next (s.loadSlot .a .c)

/-- LD A,D (0x7A), R170. -/
def exec_ld_a_d (s : State) : Result := .next (s.loadSlot .a .d)

/-- LD A,E (0x7B), R170. -/
def exec_ld_a_e (s : State) : Result := .next (s.loadSlot .a .e)

/-- LD A,H (0x7C), R170. -/
def exec_ld_a_h (s : State) : Result := .next (s.loadSlot .a .h)

/-- LD A,L (0x7D), R170. -/
def exec_ld_a_l (s : State) : Result := .next (s.loadSlot .a .l)

/-- LD A,(HL) (0x7E), R171. -/
def exec_ld_a_mhl (s : State) : Result := .next (s.loadSlot .a .mhl)

/-- LD A,A (0x7F), R170. -/
def exec_ld_a_a (s : State) : Result := .next (s.loadSlot .a .a)

/-- LD B,d8 (0x06), R174. -/
def exec_ld_b_d8 (n : Byte) (s : State) : Result := .next (s.loadImm .b n)

/-- LD C,d8 (0x0E), R174. -/
def exec_ld_c_d8 (n : Byte) (s : State) : Result := .next (s.loadImm .c n)

/-- LD D,d8 (0x16), R174. -/
def exec_ld_d_d8 (n : Byte) (s : State) : Result := .next (s.loadImm .d n)

/-- LD E,d8 (0x1E), R174. -/
def exec_ld_e_d8 (n : Byte) (s : State) : Result := .next (s.loadImm .e n)

/-- LD H,d8 (0x26), R174. -/
def exec_ld_h_d8 (n : Byte) (s : State) : Result := .next (s.loadImm .h n)

/-- LD L,d8 (0x2E), R174. -/
def exec_ld_l_d8 (n : Byte) (s : State) : Result := .next (s.loadImm .l n)

/-- LD (HL),d8 (0x36), R175. -/
def exec_ld_mhl_d8 (n : Byte) (s : State) : Result := .next (s.loadImm .mhl n)

/-- LD A,d8 (0x3E), R174. -/
def exec_ld_a_d8 (n : Byte) (s : State) : Result := .next (s.loadImm .a n)

/-- LD (BC),A (0x02), R176. -/
def exec_ld_mbc_a (s : State) : Result := .next (s.storeA s.bc 1)

/-- LD (DE),A (0x12), R177. -/
def exec_ld_mde_a (s : State) : Result := .next (s.storeA s.de 1)

/-- LD A,(BC) (0x0A), R178. -/
def exec_ld_a_mbc (s : State) : Result := .next (s.loadA s.bc 1)

/-- LD A,(DE) (0x1A), R179. -/
def exec_ld_a_mde (s : State) : Result := .next (s.loadA s.de 1)

/-- LD (HL+),A (0x22), R180. -/
def exec_ld_mhli_a (s : State) : Result := .next ((s.storeA s.hl 1).setHL (s.hl + 1))

/-- LD (HL-),A (0x32), R181. -/
def exec_ld_mhld_a (s : State) : Result := .next ((s.storeA s.hl 1).setHL (s.hl - 1))

/-- LD A,(HL+) (0x2A), R182. -/
def exec_ld_a_mhli (s : State) : Result := .next ((s.loadA s.hl 1).setHL (s.hl + 1))

/-- LD A,(HL-) (0x3A), R183. -/
def exec_ld_a_mhld (s : State) : Result := .next ((s.loadA s.hl 1).setHL (s.hl - 1))

/-- LDH (a8),A (0xE0), R184. -/
def exec_ldh_ma8_a (n : Byte) (s : State) : Result := .next (s.storeA (highPage n) 2)

/-- LDH A,(a8) (0xF0), R185. -/
def exec_ldh_a_ma8 (n : Byte) (s : State) : Result := .next (s.loadA (highPage n) 2)

/-- LD (C),A (0xE2), R186. -/
def exec_ld_mc_a (s : State) : Result := .next (s.storeA (highPage s.c) 1)

/-- LD A,(C) (0xF2), R187. -/
def exec_ld_a_mc (s : State) : Result := .next (s.loadA (highPage s.c) 1)

/-- LD (a16),A (0xEA), R188. -/
def exec_ld_ma16_a (n : Word) (s : State) : Result := .next (s.storeA n 3)

/-- LD A,(a16) (0xFA), R189. -/
def exec_ld_a_ma16 (n : Word) (s : State) : Result := .next (s.loadA n 3)

end Sys2Proof.Machine
end

