-- ==== Sys2Proof/Machine/Alu8.lean ====
section
/-! DEFINITION. 8-bit arithmetic and logic (44_alu8.md, R230 to R257): the helpers of Machine/Flags.lean applied to A and an operand. The decimal-adjust opcode 0x27 computes nothing and clears `running` (R254, R133). -/

namespace Sys2Proof.Machine

/-- An ALU operation on A and `b` by an instruction of `len` bytes (R230 to R245); for CP the helper's value is A itself. -/
def State.aluOn (s : State) (c : Config) (op : AluOp) (b : Byte) (len : Word) : State :=
  let r := Alu.apply c op s.flags s.a b
  ((s.setReg .a r.1).setFlags r.2).advance len

/-- The ALU band: operand from a slot (R230 to R237). -/
def State.aluSlot (s : State) (c : Config) (op : AluOp) (z : Slot) : State := s.aluOn c op (s.readSlot z) 1

/-- The ALU with an immediate operand (R238 to R245). -/
def State.aluImm (s : State) (c : Config) (op : AluOp) (n : Byte) : State := s.aluOn c op n 2

/-- A slot and the flags replaced by a helper's answer. -/
def State.updateSlot (s : State) (z : Slot) (r : Byte × Flags) : State := (s.writeSlot z r.1).setFlags r.2

/-- INC slot (R246, R247). -/
def State.incSlot (s : State) (z : Slot) : State :=
  (s.updateSlot z (Alu.inc s.flags (s.readSlot z))).advance 1

/-- DEC slot (R248, R249). -/
def State.decSlot (s : State) (z : Slot) : State :=
  (s.updateSlot z (Alu.dec s.flags (s.readSlot z))).advance 1

/-- An accumulator rotate (R250 to R253), Zero by `ROTA_Z`. -/
def State.rotA (s : State) (c : Config) (op : RotOp) : State :=
  let r := Alu.rotate c op s.flags s.a
  ((s.setReg .a r.1).setFlags (Alu.rotaFlags c r.2)).advance 1

/-- ADD A,B (0x80), R230. -/
def exec_add_a_b (s : State) : Result := .next (s.aluSlot Config.jgameboy .add .b)

/-- ADD A,C (0x81), R230. -/
def exec_add_a_c (s : State) : Result := .next (s.aluSlot Config.jgameboy .add .c)

/-- ADD A,D (0x82), R230. -/
def exec_add_a_d (s : State) : Result := .next (s.aluSlot Config.jgameboy .add .d)

/-- ADD A,E (0x83), R230. -/
def exec_add_a_e (s : State) : Result := .next (s.aluSlot Config.jgameboy .add .e)

/-- ADD A,H (0x84), R230. -/
def exec_add_a_h (s : State) : Result := .next (s.aluSlot Config.jgameboy .add .h)

/-- ADD A,L (0x85), R230. -/
def exec_add_a_l (s : State) : Result := .next (s.aluSlot Config.jgameboy .add .l)

/-- ADD A,(HL) (0x86), R230. -/
def exec_add_a_mhl (s : State) : Result := .next (s.aluSlot Config.jgameboy .add .mhl)

/-- ADD A,A (0x87), R230. -/
def exec_add_a_a (s : State) : Result := .next (s.aluSlot Config.jgameboy .add .a)

/-- ADC A,B (0x88), R231. -/
def exec_adc_a_b (s : State) : Result := .next (s.aluSlot Config.jgameboy .adc .b)

/-- ADC A,C (0x89), R231. -/
def exec_adc_a_c (s : State) : Result := .next (s.aluSlot Config.jgameboy .adc .c)

/-- ADC A,D (0x8A), R231. -/
def exec_adc_a_d (s : State) : Result := .next (s.aluSlot Config.jgameboy .adc .d)

/-- ADC A,E (0x8B), R231. -/
def exec_adc_a_e (s : State) : Result := .next (s.aluSlot Config.jgameboy .adc .e)

/-- ADC A,H (0x8C), R231. -/
def exec_adc_a_h (s : State) : Result := .next (s.aluSlot Config.jgameboy .adc .h)

/-- ADC A,L (0x8D), R231. -/
def exec_adc_a_l (s : State) : Result := .next (s.aluSlot Config.jgameboy .adc .l)

/-- ADC A,(HL) (0x8E), R231. -/
def exec_adc_a_mhl (s : State) : Result := .next (s.aluSlot Config.jgameboy .adc .mhl)

/-- ADC A,A (0x8F), R231. -/
def exec_adc_a_a (s : State) : Result := .next (s.aluSlot Config.jgameboy .adc .a)

/-- SUB B (0x90), R232. -/
def exec_sub_b (s : State) : Result := .next (s.aluSlot Config.jgameboy .sub .b)

/-- SUB C (0x91), R232. -/
def exec_sub_c (s : State) : Result := .next (s.aluSlot Config.jgameboy .sub .c)

/-- SUB D (0x92), R232. -/
def exec_sub_d (s : State) : Result := .next (s.aluSlot Config.jgameboy .sub .d)

/-- SUB E (0x93), R232. -/
def exec_sub_e (s : State) : Result := .next (s.aluSlot Config.jgameboy .sub .e)

/-- SUB H (0x94), R232. -/
def exec_sub_h (s : State) : Result := .next (s.aluSlot Config.jgameboy .sub .h)

/-- SUB L (0x95), R232. -/
def exec_sub_l (s : State) : Result := .next (s.aluSlot Config.jgameboy .sub .l)

/-- SUB (HL) (0x96), R232. -/
def exec_sub_mhl (s : State) : Result := .next (s.aluSlot Config.jgameboy .sub .mhl)

/-- SUB A (0x97), R232. -/
def exec_sub_a (s : State) : Result := .next (s.aluSlot Config.jgameboy .sub .a)

/-- SBC A,B (0x98), R233. -/
def exec_sbc_a_b (s : State) : Result := .next (s.aluSlot Config.jgameboy .sbc .b)

/-- SBC A,C (0x99), R233. -/
def exec_sbc_a_c (s : State) : Result := .next (s.aluSlot Config.jgameboy .sbc .c)

/-- SBC A,D (0x9A), R233. -/
def exec_sbc_a_d (s : State) : Result := .next (s.aluSlot Config.jgameboy .sbc .d)

/-- SBC A,E (0x9B), R233. -/
def exec_sbc_a_e (s : State) : Result := .next (s.aluSlot Config.jgameboy .sbc .e)

/-- SBC A,H (0x9C), R233. -/
def exec_sbc_a_h (s : State) : Result := .next (s.aluSlot Config.jgameboy .sbc .h)

/-- SBC A,L (0x9D), R233. -/
def exec_sbc_a_l (s : State) : Result := .next (s.aluSlot Config.jgameboy .sbc .l)

/-- SBC A,(HL) (0x9E), R233. -/
def exec_sbc_a_mhl (s : State) : Result := .next (s.aluSlot Config.jgameboy .sbc .mhl)

/-- SBC A,A (0x9F), R233. -/
def exec_sbc_a_a (s : State) : Result := .next (s.aluSlot Config.jgameboy .sbc .a)

/-- AND B (0xA0), R234. -/
def exec_and_b (s : State) : Result := .next (s.aluSlot Config.jgameboy .and .b)

/-- AND C (0xA1), R234. -/
def exec_and_c (s : State) : Result := .next (s.aluSlot Config.jgameboy .and .c)

/-- AND D (0xA2), R234. -/
def exec_and_d (s : State) : Result := .next (s.aluSlot Config.jgameboy .and .d)

/-- AND E (0xA3), R234. -/
def exec_and_e (s : State) : Result := .next (s.aluSlot Config.jgameboy .and .e)

/-- AND H (0xA4), R234. -/
def exec_and_h (s : State) : Result := .next (s.aluSlot Config.jgameboy .and .h)

/-- AND L (0xA5), R234. -/
def exec_and_l (s : State) : Result := .next (s.aluSlot Config.jgameboy .and .l)

/-- AND (HL) (0xA6), R234. -/
def exec_and_mhl (s : State) : Result := .next (s.aluSlot Config.jgameboy .and .mhl)

/-- AND A (0xA7), R234. -/
def exec_and_a (s : State) : Result := .next (s.aluSlot Config.jgameboy .and .a)

/-- XOR B (0xA8), R235. -/
def exec_xor_b (s : State) : Result := .next (s.aluSlot Config.jgameboy .xor .b)

/-- XOR C (0xA9), R235. -/
def exec_xor_c (s : State) : Result := .next (s.aluSlot Config.jgameboy .xor .c)

/-- XOR D (0xAA), R235. -/
def exec_xor_d (s : State) : Result := .next (s.aluSlot Config.jgameboy .xor .d)

/-- XOR E (0xAB), R235. -/
def exec_xor_e (s : State) : Result := .next (s.aluSlot Config.jgameboy .xor .e)

/-- XOR H (0xAC), R235. -/
def exec_xor_h (s : State) : Result := .next (s.aluSlot Config.jgameboy .xor .h)

/-- XOR L (0xAD), R235. -/
def exec_xor_l (s : State) : Result := .next (s.aluSlot Config.jgameboy .xor .l)

/-- XOR (HL) (0xAE), R235. -/
def exec_xor_mhl (s : State) : Result := .next (s.aluSlot Config.jgameboy .xor .mhl)

/-- XOR A (0xAF), R235. -/
def exec_xor_a (s : State) : Result := .next (s.aluSlot Config.jgameboy .xor .a)

/-- OR B (0xB0), R236. -/
def exec_or_b (s : State) : Result := .next (s.aluSlot Config.jgameboy .or .b)

/-- OR C (0xB1), R236. -/
def exec_or_c (s : State) : Result := .next (s.aluSlot Config.jgameboy .or .c)

/-- OR D (0xB2), R236. -/
def exec_or_d (s : State) : Result := .next (s.aluSlot Config.jgameboy .or .d)

/-- OR E (0xB3), R236. -/
def exec_or_e (s : State) : Result := .next (s.aluSlot Config.jgameboy .or .e)

/-- OR H (0xB4), R236. -/
def exec_or_h (s : State) : Result := .next (s.aluSlot Config.jgameboy .or .h)

/-- OR L (0xB5), R236. -/
def exec_or_l (s : State) : Result := .next (s.aluSlot Config.jgameboy .or .l)

/-- OR (HL) (0xB6), R236. -/
def exec_or_mhl (s : State) : Result := .next (s.aluSlot Config.jgameboy .or .mhl)

/-- OR A (0xB7), R236. -/
def exec_or_a (s : State) : Result := .next (s.aluSlot Config.jgameboy .or .a)

/-- CP B (0xB8), R237. -/
def exec_cp_b (s : State) : Result := .next (s.aluSlot Config.jgameboy .cp .b)

/-- CP C (0xB9), R237. -/
def exec_cp_c (s : State) : Result := .next (s.aluSlot Config.jgameboy .cp .c)

/-- CP D (0xBA), R237. -/
def exec_cp_d (s : State) : Result := .next (s.aluSlot Config.jgameboy .cp .d)

/-- CP E (0xBB), R237. -/
def exec_cp_e (s : State) : Result := .next (s.aluSlot Config.jgameboy .cp .e)

/-- CP H (0xBC), R237. -/
def exec_cp_h (s : State) : Result := .next (s.aluSlot Config.jgameboy .cp .h)

/-- CP L (0xBD), R237. -/
def exec_cp_l (s : State) : Result := .next (s.aluSlot Config.jgameboy .cp .l)

/-- CP (HL) (0xBE), R237. -/
def exec_cp_mhl (s : State) : Result := .next (s.aluSlot Config.jgameboy .cp .mhl)

/-- CP A (0xBF), R237. -/
def exec_cp_a (s : State) : Result := .next (s.aluSlot Config.jgameboy .cp .a)

/-- ADD A,d8 (0xC6), R238. -/
def exec_add_a_d8 (n : Byte) (s : State) : Result := .next (s.aluImm Config.jgameboy .add n)

/-- ADC A,d8 (0xCE), R239. -/
def exec_adc_a_d8 (n : Byte) (s : State) : Result := .next (s.aluImm Config.jgameboy .adc n)

/-- SUB d8 (0xD6), R240. -/
def exec_sub_d8 (n : Byte) (s : State) : Result := .next (s.aluImm Config.jgameboy .sub n)

/-- SBC A,d8 (0xDE), R241. -/
def exec_sbc_a_d8 (n : Byte) (s : State) : Result := .next (s.aluImm Config.jgameboy .sbc n)

/-- AND d8 (0xE6), R242. -/
def exec_and_d8 (n : Byte) (s : State) : Result := .next (s.aluImm Config.jgameboy .and n)

/-- XOR d8 (0xEE), R243. -/
def exec_xor_d8 (n : Byte) (s : State) : Result := .next (s.aluImm Config.jgameboy .xor n)

/-- OR d8 (0xF6), R244. -/
def exec_or_d8 (n : Byte) (s : State) : Result := .next (s.aluImm Config.jgameboy .or n)

/-- CP d8 (0xFE), R245. -/
def exec_cp_d8 (n : Byte) (s : State) : Result := .next (s.aluImm Config.jgameboy .cp n)

/-- INC B (0x04), R246. -/
def exec_inc_b (s : State) : Result := .next (s.incSlot .b)

/-- INC C (0x0C), R246. -/
def exec_inc_c (s : State) : Result := .next (s.incSlot .c)

/-- INC D (0x14), R246. -/
def exec_inc_d (s : State) : Result := .next (s.incSlot .d)

/-- INC E (0x1C), R246. -/
def exec_inc_e (s : State) : Result := .next (s.incSlot .e)

/-- INC H (0x24), R246. -/
def exec_inc_h (s : State) : Result := .next (s.incSlot .h)

/-- INC L (0x2C), R246. -/
def exec_inc_l (s : State) : Result := .next (s.incSlot .l)

/-- INC (HL) (0x34), R247. -/
def exec_inc_mhl (s : State) : Result := .next (s.incSlot .mhl)

/-- INC A (0x3C), R246. -/
def exec_inc_a (s : State) : Result := .next (s.incSlot .a)

/-- DEC B (0x05), R248. -/
def exec_dec_b (s : State) : Result := .next (s.decSlot .b)

/-- DEC C (0x0D), R248. -/
def exec_dec_c (s : State) : Result := .next (s.decSlot .c)

/-- DEC D (0x15), R248. -/
def exec_dec_d (s : State) : Result := .next (s.decSlot .d)

/-- DEC E (0x1D), R248. -/
def exec_dec_e (s : State) : Result := .next (s.decSlot .e)

/-- DEC H (0x25), R248. -/
def exec_dec_h (s : State) : Result := .next (s.decSlot .h)

/-- DEC L (0x2D), R248. -/
def exec_dec_l (s : State) : Result := .next (s.decSlot .l)

/-- DEC (HL) (0x35), R249. -/
def exec_dec_mhl (s : State) : Result := .next (s.decSlot .mhl)

/-- DEC A (0x3D), R248. -/
def exec_dec_a (s : State) : Result := .next (s.decSlot .a)

/-- RLCA (0x07), R250. -/
def exec_rlca (s : State) : Result := .next (s.rotA Config.jgameboy .rlc)

/-- RRCA (0x0F), R251. -/
def exec_rrca (s : State) : Result := .next (s.rotA Config.jgameboy .rrc)

/-- RLA (0x17), R252. -/
def exec_rla (s : State) : Result := .next (s.rotA Config.jgameboy .rl)

/-- RRA (0x1F), R253. -/
def exec_rra (s : State) : Result := .next (s.rotA Config.jgameboy .rr)

/-- DAA (0x27), R254. -/
def exec_daa (s : State) : Result := .next ((s.setRunning false).advance 1)

/-- CPL (0x2F), R255. -/
def exec_cpl (s : State) : Result := .next (((s.setReg .a (s.a ^^^ 0xFF)).setFlags { s.flags with h := true, n := true }).advance 1)

/-- SCF (0x37), R256. -/
def exec_scf (s : State) : Result := .next ((s.setFlags { s.flags with c := true, h := false, n := false }).advance 1)

/-- CCF (0x3F), R257. -/
def exec_ccf (s : State) : Result := .next ((s.setFlags { s.flags with c := !s.flags.c, h := false, n := false }).advance 1)

end Sys2Proof.Machine
end

