-- ==== Sys2Proof/Machine/Extended.lean ====
section
/-! DEFINITION. The extended table (48_extended.md, R320 to R332): each case of ExecExt, none of which touches `pc` (that file's header; the calling step of PREFIX does, R304; log entry 6), then one meaning per row. -/

namespace Sys2Proof.Machine

/-- `WriteSlot(z, ROT[y](ReadSlot(z)))` (R321 to R328). -/
def State.extRot (s : State) (c : Config) (op : RotOp) (z : Slot) : State :=
  s.updateSlot z (Alu.rotate c op s.flags (s.readSlot z))

/-- `testBit(ReadSlot(z), b)`, nothing written back (R329). -/
def State.extBit (s : State) (b : Nat) (z : Slot) : State :=
  s.setFlags (Alu.testBit s.flags (s.readSlot z) b)

/-- `WriteSlot(z, setBit(ReadSlot(z), b, 0))` (R330). -/
def State.extRes (s : State) (b : Nat) (z : Slot) : State :=
  s.writeSlot z (Alu.setBit (s.readSlot z) b false)

/-- `WriteSlot(z, setBit(ReadSlot(z), b, 1))` (R331). -/
def State.extSet (s : State) (b : Nat) (z : Slot) : State :=
  s.writeSlot z (Alu.setBit (s.readSlot z) b true)

/-- `ExecExt(op2)` (R320); an opcode outside `RECOGNISED_EXT` has no effect (R306). -/
def State.execExt (s : State) (c : Config) (op2 : Byte) : State :=
  let y := fieldY op2
  let z := Slot.ofCode (fieldZ op2)
  if c.unhandledExt.contains op2 then s
  else if fieldX op2 = 0 then s.extRot c (RotOp.ofCode y) z
  else if fieldX op2 = 1 then s.extBit y.toNat z
  else if fieldX op2 = 2 then s.extRes y.toNat z
  else s.extSet y.toNat z

/-- RLC B (op2 0x00), R321. -/
def exec_rlc_b (s : State) : Result := .next (s.extRot Config.jgameboy .rlc .b)

/-- RLC C (op2 0x01), R321. -/
def exec_rlc_c (s : State) : Result := .next (s.extRot Config.jgameboy .rlc .c)

/-- RLC D (op2 0x02), R321. -/
def exec_rlc_d (s : State) : Result := .next (s.extRot Config.jgameboy .rlc .d)

/-- RLC E (op2 0x03), R321. -/
def exec_rlc_e (s : State) : Result := .next (s.extRot Config.jgameboy .rlc .e)

/-- RLC H (op2 0x04), R321. -/
def exec_rlc_h (s : State) : Result := .next (s.extRot Config.jgameboy .rlc .h)

/-- RLC L (op2 0x05), R321. -/
def exec_rlc_l (s : State) : Result := .next (s.extRot Config.jgameboy .rlc .l)

/-- RLC (HL) (op2 0x06), R321. -/
def exec_rlc_mhl (s : State) : Result := .next (s.extRot Config.jgameboy .rlc .mhl)

/-- RLC A (op2 0x07), R321. -/
def exec_rlc_a (s : State) : Result := .next (s.extRot Config.jgameboy .rlc .a)

/-- RRC B (op2 0x08), R322. -/
def exec_rrc_b (s : State) : Result := .next (s.extRot Config.jgameboy .rrc .b)

/-- RRC C (op2 0x09), R322. -/
def exec_rrc_c (s : State) : Result := .next (s.extRot Config.jgameboy .rrc .c)

/-- RRC D (op2 0x0A), R322. -/
def exec_rrc_d (s : State) : Result := .next (s.extRot Config.jgameboy .rrc .d)

/-- RRC E (op2 0x0B), R322. -/
def exec_rrc_e (s : State) : Result := .next (s.extRot Config.jgameboy .rrc .e)

/-- RRC H (op2 0x0C), R322. -/
def exec_rrc_h (s : State) : Result := .next (s.extRot Config.jgameboy .rrc .h)

/-- RRC L (op2 0x0D), R322. -/
def exec_rrc_l (s : State) : Result := .next (s.extRot Config.jgameboy .rrc .l)

/-- RRC (HL) (op2 0x0E), R322. -/
def exec_rrc_mhl (s : State) : Result := .next (s.extRot Config.jgameboy .rrc .mhl)

/-- RRC A (op2 0x0F), R322. -/
def exec_rrc_a (s : State) : Result := .next (s.extRot Config.jgameboy .rrc .a)

/-- RL B (op2 0x10), R323. -/
def exec_rl_b (s : State) : Result := .next (s.extRot Config.jgameboy .rl .b)

/-- RL C (op2 0x11), R323. -/
def exec_rl_c (s : State) : Result := .next (s.extRot Config.jgameboy .rl .c)

/-- RL D (op2 0x12), R323. -/
def exec_rl_d (s : State) : Result := .next (s.extRot Config.jgameboy .rl .d)

/-- RL E (op2 0x13), R323. -/
def exec_rl_e (s : State) : Result := .next (s.extRot Config.jgameboy .rl .e)

/-- RL H (op2 0x14), R323. -/
def exec_rl_h (s : State) : Result := .next (s.extRot Config.jgameboy .rl .h)

/-- RL L (op2 0x15), R323. -/
def exec_rl_l (s : State) : Result := .next (s.extRot Config.jgameboy .rl .l)

/-- RL (HL) (op2 0x16), R323. -/
def exec_rl_mhl (s : State) : Result := .next (s.extRot Config.jgameboy .rl .mhl)

/-- RL A (op2 0x17), R323. -/
def exec_rl_a (s : State) : Result := .next (s.extRot Config.jgameboy .rl .a)

/-- RR B (op2 0x18), R324. -/
def exec_rr_b (s : State) : Result := .next (s.extRot Config.jgameboy .rr .b)

/-- RR C (op2 0x19), R324. -/
def exec_rr_c (s : State) : Result := .next (s.extRot Config.jgameboy .rr .c)

/-- RR D (op2 0x1A), R324. -/
def exec_rr_d (s : State) : Result := .next (s.extRot Config.jgameboy .rr .d)

/-- RR E (op2 0x1B), R324. -/
def exec_rr_e (s : State) : Result := .next (s.extRot Config.jgameboy .rr .e)

/-- RR H (op2 0x1C), R324. -/
def exec_rr_h (s : State) : Result := .next (s.extRot Config.jgameboy .rr .h)

/-- RR L (op2 0x1D), R324. -/
def exec_rr_l (s : State) : Result := .next (s.extRot Config.jgameboy .rr .l)

/-- RR (HL) (op2 0x1E), R324. -/
def exec_rr_mhl (s : State) : Result := .next (s.extRot Config.jgameboy .rr .mhl)

/-- RR A (op2 0x1F), R324. -/
def exec_rr_a (s : State) : Result := .next (s.extRot Config.jgameboy .rr .a)

/-- SLA B (op2 0x20), R325. -/
def exec_sla_b (s : State) : Result := .next (s.extRot Config.jgameboy .sla .b)

/-- SLA C (op2 0x21), R325. -/
def exec_sla_c (s : State) : Result := .next (s.extRot Config.jgameboy .sla .c)

/-- SLA D (op2 0x22), R325. -/
def exec_sla_d (s : State) : Result := .next (s.extRot Config.jgameboy .sla .d)

/-- SLA E (op2 0x23), R325. -/
def exec_sla_e (s : State) : Result := .next (s.extRot Config.jgameboy .sla .e)

/-- SLA H (op2 0x24), R325. -/
def exec_sla_h (s : State) : Result := .next (s.extRot Config.jgameboy .sla .h)

/-- SLA L (op2 0x25), R325. -/
def exec_sla_l (s : State) : Result := .next (s.extRot Config.jgameboy .sla .l)

/-- SLA (HL) (op2 0x26), R325. -/
def exec_sla_mhl (s : State) : Result := .next (s.extRot Config.jgameboy .sla .mhl)

/-- SLA A (op2 0x27), R325. -/
def exec_sla_a (s : State) : Result := .next (s.extRot Config.jgameboy .sla .a)

/-- SRA B (op2 0x28), R326. -/
def exec_sra_b (s : State) : Result := .next (s.extRot Config.jgameboy .sra .b)

/-- SRA C (op2 0x29), R326. -/
def exec_sra_c (s : State) : Result := .next (s.extRot Config.jgameboy .sra .c)

/-- SRA D (op2 0x2A), R326. -/
def exec_sra_d (s : State) : Result := .next (s.extRot Config.jgameboy .sra .d)

/-- SRA E (op2 0x2B), R326. -/
def exec_sra_e (s : State) : Result := .next (s.extRot Config.jgameboy .sra .e)

/-- SRA H (op2 0x2C), R326. -/
def exec_sra_h (s : State) : Result := .next (s.extRot Config.jgameboy .sra .h)

/-- SRA L (op2 0x2D), R326. -/
def exec_sra_l (s : State) : Result := .next (s.extRot Config.jgameboy .sra .l)

/-- SRA (HL) (op2 0x2E), R326. -/
def exec_sra_mhl (s : State) : Result := .next (s.extRot Config.jgameboy .sra .mhl)

/-- SRA A (op2 0x2F), R326. -/
def exec_sra_a (s : State) : Result := .next (s.extRot Config.jgameboy .sra .a)

/-- SWAP B (op2 0x30), R327. -/
def exec_swap_b (s : State) : Result := .next (s.extRot Config.jgameboy .swap .b)

/-- SWAP C (op2 0x31), R327. -/
def exec_swap_c (s : State) : Result := .next (s.extRot Config.jgameboy .swap .c)

/-- SWAP D (op2 0x32), R327. -/
def exec_swap_d (s : State) : Result := .next (s.extRot Config.jgameboy .swap .d)

/-- SWAP E (op2 0x33), R327. -/
def exec_swap_e (s : State) : Result := .next (s.extRot Config.jgameboy .swap .e)

/-- SWAP H (op2 0x34), R327. -/
def exec_swap_h (s : State) : Result := .next (s.extRot Config.jgameboy .swap .h)

/-- SWAP L (op2 0x35), R327. -/
def exec_swap_l (s : State) : Result := .next (s.extRot Config.jgameboy .swap .l)

/-- SWAP (HL) (op2 0x36), R327. -/
def exec_swap_mhl (s : State) : Result := .next (s.extRot Config.jgameboy .swap .mhl)

/-- SWAP A (op2 0x37), R327. -/
def exec_swap_a (s : State) : Result := .next (s.extRot Config.jgameboy .swap .a)

/-- SRL B (op2 0x38), R328. -/
def exec_srl_b (s : State) : Result := .next (s.extRot Config.jgameboy .srl .b)

/-- SRL C (op2 0x39), R328. -/
def exec_srl_c (s : State) : Result := .next (s.extRot Config.jgameboy .srl .c)

/-- SRL D (op2 0x3A), R328. -/
def exec_srl_d (s : State) : Result := .next (s.extRot Config.jgameboy .srl .d)

/-- SRL E (op2 0x3B), R328. -/
def exec_srl_e (s : State) : Result := .next (s.extRot Config.jgameboy .srl .e)

/-- SRL H (op2 0x3C), R328. -/
def exec_srl_h (s : State) : Result := .next (s.extRot Config.jgameboy .srl .h)

/-- SRL L (op2 0x3D), R328. -/
def exec_srl_l (s : State) : Result := .next (s.extRot Config.jgameboy .srl .l)

/-- SRL (HL) (op2 0x3E), R328. -/
def exec_srl_mhl (s : State) : Result := .next (s.extRot Config.jgameboy .srl .mhl)

/-- SRL A (op2 0x3F), R328. -/
def exec_srl_a (s : State) : Result := .next (s.extRot Config.jgameboy .srl .a)

/-- BIT 0,B (op2 0x40), R329. -/
def exec_bit_0_b (s : State) : Result := .next (s.extBit 0 .b)

/-- BIT 0,C (op2 0x41), R329. -/
def exec_bit_0_c (s : State) : Result := .next (s.extBit 0 .c)

/-- BIT 0,D (op2 0x42), R329. -/
def exec_bit_0_d (s : State) : Result := .next (s.extBit 0 .d)

/-- BIT 0,E (op2 0x43), R329. -/
def exec_bit_0_e (s : State) : Result := .next (s.extBit 0 .e)

/-- BIT 0,H (op2 0x44), R329. -/
def exec_bit_0_h (s : State) : Result := .next (s.extBit 0 .h)

/-- BIT 0,L (op2 0x45), R329. -/
def exec_bit_0_l (s : State) : Result := .next (s.extBit 0 .l)

/-- BIT 0,(HL) (op2 0x46), R329. -/
def exec_bit_0_mhl (s : State) : Result := .next (s.extBit 0 .mhl)

/-- BIT 0,A (op2 0x47), R329. -/
def exec_bit_0_a (s : State) : Result := .next (s.extBit 0 .a)

/-- BIT 1,B (op2 0x48), R329. -/
def exec_bit_1_b (s : State) : Result := .next (s.extBit 1 .b)

/-- BIT 1,C (op2 0x49), R329. -/
def exec_bit_1_c (s : State) : Result := .next (s.extBit 1 .c)

/-- BIT 1,D (op2 0x4A), R329. -/
def exec_bit_1_d (s : State) : Result := .next (s.extBit 1 .d)

/-- BIT 1,E (op2 0x4B), R329. -/
def exec_bit_1_e (s : State) : Result := .next (s.extBit 1 .e)

/-- BIT 1,H (op2 0x4C), R329. -/
def exec_bit_1_h (s : State) : Result := .next (s.extBit 1 .h)

/-- BIT 1,L (op2 0x4D), R329. -/
def exec_bit_1_l (s : State) : Result := .next (s.extBit 1 .l)

/-- BIT 1,(HL) (op2 0x4E), R329. -/
def exec_bit_1_mhl (s : State) : Result := .next (s.extBit 1 .mhl)

/-- BIT 1,A (op2 0x4F), R329. -/
def exec_bit_1_a (s : State) : Result := .next (s.extBit 1 .a)

/-- BIT 2,B (op2 0x50), R329. -/
def exec_bit_2_b (s : State) : Result := .next (s.extBit 2 .b)

/-- BIT 2,C (op2 0x51), R329. -/
def exec_bit_2_c (s : State) : Result := .next (s.extBit 2 .c)

/-- BIT 2,D (op2 0x52), R329. -/
def exec_bit_2_d (s : State) : Result := .next (s.extBit 2 .d)

/-- BIT 2,E (op2 0x53), R329. -/
def exec_bit_2_e (s : State) : Result := .next (s.extBit 2 .e)

/-- BIT 2,H (op2 0x54), R329. -/
def exec_bit_2_h (s : State) : Result := .next (s.extBit 2 .h)

/-- BIT 2,L (op2 0x55), R329. -/
def exec_bit_2_l (s : State) : Result := .next (s.extBit 2 .l)

/-- BIT 2,(HL) (op2 0x56), R329. -/
def exec_bit_2_mhl (s : State) : Result := .next (s.extBit 2 .mhl)

/-- BIT 2,A (op2 0x57), R329. -/
def exec_bit_2_a (s : State) : Result := .next (s.extBit 2 .a)

/-- BIT 3,B (op2 0x58), R329. -/
def exec_bit_3_b (s : State) : Result := .next (s.extBit 3 .b)

/-- BIT 3,C (op2 0x59), R329. -/
def exec_bit_3_c (s : State) : Result := .next (s.extBit 3 .c)

/-- BIT 3,D (op2 0x5A), R329. -/
def exec_bit_3_d (s : State) : Result := .next (s.extBit 3 .d)

/-- BIT 3,E (op2 0x5B), R329. -/
def exec_bit_3_e (s : State) : Result := .next (s.extBit 3 .e)

/-- BIT 3,H (op2 0x5C), R329. -/
def exec_bit_3_h (s : State) : Result := .next (s.extBit 3 .h)

/-- BIT 3,L (op2 0x5D), R329. -/
def exec_bit_3_l (s : State) : Result := .next (s.extBit 3 .l)

/-- BIT 3,(HL) (op2 0x5E), R329. -/
def exec_bit_3_mhl (s : State) : Result := .next (s.extBit 3 .mhl)

/-- BIT 3,A (op2 0x5F), R329. -/
def exec_bit_3_a (s : State) : Result := .next (s.extBit 3 .a)

/-- BIT 4,B (op2 0x60), R329. -/
def exec_bit_4_b (s : State) : Result := .next (s.extBit 4 .b)

/-- BIT 4,C (op2 0x61), R329. -/
def exec_bit_4_c (s : State) : Result := .next (s.extBit 4 .c)

/-- BIT 4,D (op2 0x62), R329. -/
def exec_bit_4_d (s : State) : Result := .next (s.extBit 4 .d)

/-- BIT 4,E (op2 0x63), R329. -/
def exec_bit_4_e (s : State) : Result := .next (s.extBit 4 .e)

/-- BIT 4,H (op2 0x64), R329. -/
def exec_bit_4_h (s : State) : Result := .next (s.extBit 4 .h)

/-- BIT 4,L (op2 0x65), R329. -/
def exec_bit_4_l (s : State) : Result := .next (s.extBit 4 .l)

/-- BIT 4,(HL) (op2 0x66), R329. -/
def exec_bit_4_mhl (s : State) : Result := .next (s.extBit 4 .mhl)

/-- BIT 4,A (op2 0x67), R329. -/
def exec_bit_4_a (s : State) : Result := .next (s.extBit 4 .a)

/-- BIT 5,B (op2 0x68), R329. -/
def exec_bit_5_b (s : State) : Result := .next (s.extBit 5 .b)

/-- BIT 5,C (op2 0x69), R329. -/
def exec_bit_5_c (s : State) : Result := .next (s.extBit 5 .c)

/-- BIT 5,D (op2 0x6A), R329. -/
def exec_bit_5_d (s : State) : Result := .next (s.extBit 5 .d)

/-- BIT 5,E (op2 0x6B), R329. -/
def exec_bit_5_e (s : State) : Result := .next (s.extBit 5 .e)

/-- BIT 5,H (op2 0x6C), R329. -/
def exec_bit_5_h (s : State) : Result := .next (s.extBit 5 .h)

/-- BIT 5,L (op2 0x6D), R329. -/
def exec_bit_5_l (s : State) : Result := .next (s.extBit 5 .l)

/-- BIT 5,(HL) (op2 0x6E), R329. -/
def exec_bit_5_mhl (s : State) : Result := .next (s.extBit 5 .mhl)

/-- BIT 5,A (op2 0x6F), R329. -/
def exec_bit_5_a (s : State) : Result := .next (s.extBit 5 .a)

/-- BIT 6,B (op2 0x70), R329. -/
def exec_bit_6_b (s : State) : Result := .next (s.extBit 6 .b)

/-- BIT 6,C (op2 0x71), R329. -/
def exec_bit_6_c (s : State) : Result := .next (s.extBit 6 .c)

/-- BIT 6,D (op2 0x72), R329. -/
def exec_bit_6_d (s : State) : Result := .next (s.extBit 6 .d)

/-- BIT 6,E (op2 0x73), R329. -/
def exec_bit_6_e (s : State) : Result := .next (s.extBit 6 .e)

/-- BIT 6,H (op2 0x74), R329. -/
def exec_bit_6_h (s : State) : Result := .next (s.extBit 6 .h)

/-- BIT 6,L (op2 0x75), R329. -/
def exec_bit_6_l (s : State) : Result := .next (s.extBit 6 .l)

/-- BIT 6,(HL) (op2 0x76), R329. -/
def exec_bit_6_mhl (s : State) : Result := .next (s.extBit 6 .mhl)

/-- BIT 6,A (op2 0x77), R329. -/
def exec_bit_6_a (s : State) : Result := .next (s.extBit 6 .a)

/-- BIT 7,B (op2 0x78), R329. -/
def exec_bit_7_b (s : State) : Result := .next (s.extBit 7 .b)

/-- BIT 7,C (op2 0x79), R329. -/
def exec_bit_7_c (s : State) : Result := .next (s.extBit 7 .c)

/-- BIT 7,D (op2 0x7A), R329. -/
def exec_bit_7_d (s : State) : Result := .next (s.extBit 7 .d)

/-- BIT 7,E (op2 0x7B), R329. -/
def exec_bit_7_e (s : State) : Result := .next (s.extBit 7 .e)

/-- BIT 7,H (op2 0x7C), R329. -/
def exec_bit_7_h (s : State) : Result := .next (s.extBit 7 .h)

/-- BIT 7,L (op2 0x7D), R329. -/
def exec_bit_7_l (s : State) : Result := .next (s.extBit 7 .l)

/-- BIT 7,(HL) (op2 0x7E), R329. -/
def exec_bit_7_mhl (s : State) : Result := .next (s.extBit 7 .mhl)

/-- BIT 7,A (op2 0x7F), R329. -/
def exec_bit_7_a (s : State) : Result := .next (s.extBit 7 .a)

/-- RES 0,B (op2 0x80), R330. -/
def exec_res_0_b (s : State) : Result := .next (s.extRes 0 .b)

/-- RES 0,C (op2 0x81), R330. -/
def exec_res_0_c (s : State) : Result := .next (s.extRes 0 .c)

/-- RES 0,D (op2 0x82), R330. -/
def exec_res_0_d (s : State) : Result := .next (s.extRes 0 .d)

/-- RES 0,E (op2 0x83), R330. -/
def exec_res_0_e (s : State) : Result := .next (s.extRes 0 .e)

/-- RES 0,H (op2 0x84), R330. -/
def exec_res_0_h (s : State) : Result := .next (s.extRes 0 .h)

/-- RES 0,L (op2 0x85), R330. -/
def exec_res_0_l (s : State) : Result := .next (s.extRes 0 .l)

/-- RES 0,(HL) (op2 0x86), R330. -/
def exec_res_0_mhl (s : State) : Result := .next (s.extRes 0 .mhl)

/-- RES 0,A (op2 0x87), R330. -/
def exec_res_0_a (s : State) : Result := .next (s.extRes 0 .a)

/-- RES 1,B (op2 0x88), R330. -/
def exec_res_1_b (s : State) : Result := .next (s.extRes 1 .b)

/-- RES 1,C (op2 0x89), R330. -/
def exec_res_1_c (s : State) : Result := .next (s.extRes 1 .c)

/-- RES 1,D (op2 0x8A), R330. -/
def exec_res_1_d (s : State) : Result := .next (s.extRes 1 .d)

/-- RES 1,E (op2 0x8B), R330. -/
def exec_res_1_e (s : State) : Result := .next (s.extRes 1 .e)

/-- RES 1,H (op2 0x8C), R330. -/
def exec_res_1_h (s : State) : Result := .next (s.extRes 1 .h)

/-- RES 1,L (op2 0x8D), R330. -/
def exec_res_1_l (s : State) : Result := .next (s.extRes 1 .l)

/-- RES 1,(HL) (op2 0x8E), R330. -/
def exec_res_1_mhl (s : State) : Result := .next (s.extRes 1 .mhl)

/-- RES 1,A (op2 0x8F), R330. -/
def exec_res_1_a (s : State) : Result := .next (s.extRes 1 .a)

/-- RES 2,B (op2 0x90), R330. -/
def exec_res_2_b (s : State) : Result := .next (s.extRes 2 .b)

/-- RES 2,C (op2 0x91), R330. -/
def exec_res_2_c (s : State) : Result := .next (s.extRes 2 .c)

/-- RES 2,D (op2 0x92), R330. -/
def exec_res_2_d (s : State) : Result := .next (s.extRes 2 .d)

/-- RES 2,E (op2 0x93), R330. -/
def exec_res_2_e (s : State) : Result := .next (s.extRes 2 .e)

/-- RES 2,H (op2 0x94), R330. -/
def exec_res_2_h (s : State) : Result := .next (s.extRes 2 .h)

/-- RES 2,L (op2 0x95), R330. -/
def exec_res_2_l (s : State) : Result := .next (s.extRes 2 .l)

/-- RES 2,(HL) (op2 0x96), R330. -/
def exec_res_2_mhl (s : State) : Result := .next (s.extRes 2 .mhl)

/-- RES 2,A (op2 0x97), R330. -/
def exec_res_2_a (s : State) : Result := .next (s.extRes 2 .a)

/-- RES 3,B (op2 0x98), R330. -/
def exec_res_3_b (s : State) : Result := .next (s.extRes 3 .b)

/-- RES 3,C (op2 0x99), R330. -/
def exec_res_3_c (s : State) : Result := .next (s.extRes 3 .c)

/-- RES 3,D (op2 0x9A), R330. -/
def exec_res_3_d (s : State) : Result := .next (s.extRes 3 .d)

/-- RES 3,E (op2 0x9B), R330. -/
def exec_res_3_e (s : State) : Result := .next (s.extRes 3 .e)

/-- RES 3,H (op2 0x9C), R330. -/
def exec_res_3_h (s : State) : Result := .next (s.extRes 3 .h)

/-- RES 3,L (op2 0x9D), R330. -/
def exec_res_3_l (s : State) : Result := .next (s.extRes 3 .l)

/-- RES 3,(HL) (op2 0x9E), R330. -/
def exec_res_3_mhl (s : State) : Result := .next (s.extRes 3 .mhl)

/-- RES 3,A (op2 0x9F), R330. -/
def exec_res_3_a (s : State) : Result := .next (s.extRes 3 .a)

/-- RES 4,B (op2 0xA0), R330. -/
def exec_res_4_b (s : State) : Result := .next (s.extRes 4 .b)

/-- RES 4,C (op2 0xA1), R330. -/
def exec_res_4_c (s : State) : Result := .next (s.extRes 4 .c)

/-- RES 4,D (op2 0xA2), R330. -/
def exec_res_4_d (s : State) : Result := .next (s.extRes 4 .d)

/-- RES 4,E (op2 0xA3), R330. -/
def exec_res_4_e (s : State) : Result := .next (s.extRes 4 .e)

/-- RES 4,H (op2 0xA4), R330. -/
def exec_res_4_h (s : State) : Result := .next (s.extRes 4 .h)

/-- RES 4,L (op2 0xA5), R330. -/
def exec_res_4_l (s : State) : Result := .next (s.extRes 4 .l)

/-- RES 4,(HL) (op2 0xA6), R330. -/
def exec_res_4_mhl (s : State) : Result := .next (s.extRes 4 .mhl)

/-- RES 4,A (op2 0xA7), R330. -/
def exec_res_4_a (s : State) : Result := .next (s.extRes 4 .a)

/-- RES 5,B (op2 0xA8), R330. -/
def exec_res_5_b (s : State) : Result := .next (s.extRes 5 .b)

/-- RES 5,C (op2 0xA9), R330. -/
def exec_res_5_c (s : State) : Result := .next (s.extRes 5 .c)

/-- RES 5,D (op2 0xAA), R330. -/
def exec_res_5_d (s : State) : Result := .next (s.extRes 5 .d)

/-- RES 5,E (op2 0xAB), R330. -/
def exec_res_5_e (s : State) : Result := .next (s.extRes 5 .e)

/-- RES 5,H (op2 0xAC), R330. -/
def exec_res_5_h (s : State) : Result := .next (s.extRes 5 .h)

/-- RES 5,L (op2 0xAD), R330. -/
def exec_res_5_l (s : State) : Result := .next (s.extRes 5 .l)

/-- RES 5,(HL) (op2 0xAE), R330. -/
def exec_res_5_mhl (s : State) : Result := .next (s.extRes 5 .mhl)

/-- RES 5,A (op2 0xAF), R330. -/
def exec_res_5_a (s : State) : Result := .next (s.extRes 5 .a)

/-- RES 6,B (op2 0xB0), R330. -/
def exec_res_6_b (s : State) : Result := .next (s.extRes 6 .b)

/-- RES 6,C (op2 0xB1), R330. -/
def exec_res_6_c (s : State) : Result := .next (s.extRes 6 .c)

/-- RES 6,D (op2 0xB2), R330. -/
def exec_res_6_d (s : State) : Result := .next (s.extRes 6 .d)

/-- RES 6,E (op2 0xB3), R330. -/
def exec_res_6_e (s : State) : Result := .next (s.extRes 6 .e)

/-- RES 6,H (op2 0xB4), R330. -/
def exec_res_6_h (s : State) : Result := .next (s.extRes 6 .h)

/-- RES 6,L (op2 0xB5), R330. -/
def exec_res_6_l (s : State) : Result := .next (s.extRes 6 .l)

/-- RES 6,(HL) (op2 0xB6), R330. -/
def exec_res_6_mhl (s : State) : Result := .next (s.extRes 6 .mhl)

/-- RES 6,A (op2 0xB7), R330. -/
def exec_res_6_a (s : State) : Result := .next (s.extRes 6 .a)

/-- RES 7,B (op2 0xB8), R330. -/
def exec_res_7_b (s : State) : Result := .next (s.extRes 7 .b)

/-- RES 7,C (op2 0xB9), R330. -/
def exec_res_7_c (s : State) : Result := .next (s.extRes 7 .c)

/-- RES 7,D (op2 0xBA), R330. -/
def exec_res_7_d (s : State) : Result := .next (s.extRes 7 .d)

/-- RES 7,E (op2 0xBB), R330. -/
def exec_res_7_e (s : State) : Result := .next (s.extRes 7 .e)

/-- RES 7,H (op2 0xBC), R330. -/
def exec_res_7_h (s : State) : Result := .next (s.extRes 7 .h)

/-- RES 7,L (op2 0xBD), R330. -/
def exec_res_7_l (s : State) : Result := .next (s.extRes 7 .l)

/-- RES 7,(HL) (op2 0xBE), R330. -/
def exec_res_7_mhl (s : State) : Result := .next (s.extRes 7 .mhl)

/-- RES 7,A (op2 0xBF), R330. -/
def exec_res_7_a (s : State) : Result := .next (s.extRes 7 .a)

/-- SET 0,B (op2 0xC0), R331. -/
def exec_set_0_b (s : State) : Result := .next (s.extSet 0 .b)

/-- SET 0,C (op2 0xC1), R331. -/
def exec_set_0_c (s : State) : Result := .next (s.extSet 0 .c)

/-- SET 0,D (op2 0xC2), R331. -/
def exec_set_0_d (s : State) : Result := .next (s.extSet 0 .d)

/-- SET 0,E (op2 0xC3), R331. -/
def exec_set_0_e (s : State) : Result := .next (s.extSet 0 .e)

/-- SET 0,H (op2 0xC4), R331. -/
def exec_set_0_h (s : State) : Result := .next (s.extSet 0 .h)

/-- SET 0,L (op2 0xC5), R331. -/
def exec_set_0_l (s : State) : Result := .next (s.extSet 0 .l)

/-- SET 0,(HL) (op2 0xC6), R331. -/
def exec_set_0_mhl (s : State) : Result := .next (s.extSet 0 .mhl)

/-- SET 0,A (op2 0xC7), R331. -/
def exec_set_0_a (s : State) : Result := .next (s.extSet 0 .a)

/-- SET 1,B (op2 0xC8), R331. -/
def exec_set_1_b (s : State) : Result := .next (s.extSet 1 .b)

/-- SET 1,C (op2 0xC9), R331. -/
def exec_set_1_c (s : State) : Result := .next (s.extSet 1 .c)

/-- SET 1,D (op2 0xCA), R331. -/
def exec_set_1_d (s : State) : Result := .next (s.extSet 1 .d)

/-- SET 1,E (op2 0xCB), R331. -/
def exec_set_1_e (s : State) : Result := .next (s.extSet 1 .e)

/-- SET 1,H (op2 0xCC), R331. -/
def exec_set_1_h (s : State) : Result := .next (s.extSet 1 .h)

/-- SET 1,L (op2 0xCD), R331. -/
def exec_set_1_l (s : State) : Result := .next (s.extSet 1 .l)

/-- SET 1,(HL) (op2 0xCE), R331. -/
def exec_set_1_mhl (s : State) : Result := .next (s.extSet 1 .mhl)

/-- SET 1,A (op2 0xCF), R331. -/
def exec_set_1_a (s : State) : Result := .next (s.extSet 1 .a)

/-- SET 2,B (op2 0xD0), R331. -/
def exec_set_2_b (s : State) : Result := .next (s.extSet 2 .b)

/-- SET 2,C (op2 0xD1), R331. -/
def exec_set_2_c (s : State) : Result := .next (s.extSet 2 .c)

/-- SET 2,D (op2 0xD2), R331. -/
def exec_set_2_d (s : State) : Result := .next (s.extSet 2 .d)

/-- SET 2,E (op2 0xD3), R331. -/
def exec_set_2_e (s : State) : Result := .next (s.extSet 2 .e)

/-- SET 2,H (op2 0xD4), R331. -/
def exec_set_2_h (s : State) : Result := .next (s.extSet 2 .h)

/-- SET 2,L (op2 0xD5), R331. -/
def exec_set_2_l (s : State) : Result := .next (s.extSet 2 .l)

/-- SET 2,(HL) (op2 0xD6), R331. -/
def exec_set_2_mhl (s : State) : Result := .next (s.extSet 2 .mhl)

/-- SET 2,A (op2 0xD7), R331. -/
def exec_set_2_a (s : State) : Result := .next (s.extSet 2 .a)

/-- SET 3,B (op2 0xD8), R331. -/
def exec_set_3_b (s : State) : Result := .next (s.extSet 3 .b)

/-- SET 3,C (op2 0xD9), R331. -/
def exec_set_3_c (s : State) : Result := .next (s.extSet 3 .c)

/-- SET 3,D (op2 0xDA), R331. -/
def exec_set_3_d (s : State) : Result := .next (s.extSet 3 .d)

/-- SET 3,E (op2 0xDB), R331. -/
def exec_set_3_e (s : State) : Result := .next (s.extSet 3 .e)

/-- SET 3,H (op2 0xDC), R331. -/
def exec_set_3_h (s : State) : Result := .next (s.extSet 3 .h)

/-- SET 3,L (op2 0xDD), R331. -/
def exec_set_3_l (s : State) : Result := .next (s.extSet 3 .l)

/-- SET 3,(HL) (op2 0xDE), R331. -/
def exec_set_3_mhl (s : State) : Result := .next (s.extSet 3 .mhl)

/-- SET 3,A (op2 0xDF), R331. -/
def exec_set_3_a (s : State) : Result := .next (s.extSet 3 .a)

/-- SET 4,B (op2 0xE0), R331. -/
def exec_set_4_b (s : State) : Result := .next (s.extSet 4 .b)

/-- SET 4,C (op2 0xE1), R331. -/
def exec_set_4_c (s : State) : Result := .next (s.extSet 4 .c)

/-- SET 4,D (op2 0xE2), R331. -/
def exec_set_4_d (s : State) : Result := .next (s.extSet 4 .d)

/-- SET 4,E (op2 0xE3), R331. -/
def exec_set_4_e (s : State) : Result := .next (s.extSet 4 .e)

/-- SET 4,H (op2 0xE4), R331. -/
def exec_set_4_h (s : State) : Result := .next (s.extSet 4 .h)

/-- SET 4,L (op2 0xE5), R331. -/
def exec_set_4_l (s : State) : Result := .next (s.extSet 4 .l)

/-- SET 4,(HL) (op2 0xE6), R331. -/
def exec_set_4_mhl (s : State) : Result := .next (s.extSet 4 .mhl)

/-- SET 4,A (op2 0xE7), R331. -/
def exec_set_4_a (s : State) : Result := .next (s.extSet 4 .a)

/-- SET 5,B (op2 0xE8), R331. -/
def exec_set_5_b (s : State) : Result := .next (s.extSet 5 .b)

/-- SET 5,C (op2 0xE9), R331. -/
def exec_set_5_c (s : State) : Result := .next (s.extSet 5 .c)

/-- SET 5,D (op2 0xEA), R331. -/
def exec_set_5_d (s : State) : Result := .next (s.extSet 5 .d)

/-- SET 5,E (op2 0xEB), R331. -/
def exec_set_5_e (s : State) : Result := .next (s.extSet 5 .e)

/-- SET 5,H (op2 0xEC), R331. -/
def exec_set_5_h (s : State) : Result := .next (s.extSet 5 .h)

/-- SET 5,L (op2 0xED), R331. -/
def exec_set_5_l (s : State) : Result := .next (s.extSet 5 .l)

/-- SET 5,(HL) (op2 0xEE), R331. -/
def exec_set_5_mhl (s : State) : Result := .next (s.extSet 5 .mhl)

/-- SET 5,A (op2 0xEF), R331. -/
def exec_set_5_a (s : State) : Result := .next (s.extSet 5 .a)

/-- SET 6,B (op2 0xF0), R331. -/
def exec_set_6_b (s : State) : Result := .next (s.extSet 6 .b)

/-- SET 6,C (op2 0xF1), R331. -/
def exec_set_6_c (s : State) : Result := .next (s.extSet 6 .c)

/-- SET 6,D (op2 0xF2), R331. -/
def exec_set_6_d (s : State) : Result := .next (s.extSet 6 .d)

/-- SET 6,E (op2 0xF3), R331. -/
def exec_set_6_e (s : State) : Result := .next (s.extSet 6 .e)

/-- SET 6,H (op2 0xF4), R331. -/
def exec_set_6_h (s : State) : Result := .next (s.extSet 6 .h)

/-- SET 6,L (op2 0xF5), R331. -/
def exec_set_6_l (s : State) : Result := .next (s.extSet 6 .l)

/-- SET 6,(HL) (op2 0xF6), R331. -/
def exec_set_6_mhl (s : State) : Result := .next (s.extSet 6 .mhl)

/-- SET 6,A (op2 0xF7), R331. -/
def exec_set_6_a (s : State) : Result := .next (s.extSet 6 .a)

/-- SET 7,B (op2 0xF8), R331. -/
def exec_set_7_b (s : State) : Result := .next (s.extSet 7 .b)

/-- SET 7,C (op2 0xF9), R331. -/
def exec_set_7_c (s : State) : Result := .next (s.extSet 7 .c)

/-- SET 7,D (op2 0xFA), R331. -/
def exec_set_7_d (s : State) : Result := .next (s.extSet 7 .d)

/-- SET 7,E (op2 0xFB), R331. -/
def exec_set_7_e (s : State) : Result := .next (s.extSet 7 .e)

/-- SET 7,H (op2 0xFC), R331. -/
def exec_set_7_h (s : State) : Result := .next (s.extSet 7 .h)

/-- SET 7,L (op2 0xFD), R331. -/
def exec_set_7_l (s : State) : Result := .next (s.extSet 7 .l)

/-- SET 7,(HL) (op2 0xFE), R331. -/
def exec_set_7_mhl (s : State) : Result := .next (s.extSet 7 .mhl)

/-- SET 7,A (op2 0xFF), R331. -/
def exec_set_7_a (s : State) : Result := .next (s.extSet 7 .a)

end Sys2Proof.Machine
end

