-- ==== Sys2Proof/Machine/System.lean ====
section
/-! DEFINITION. System instructions, the prefix and the illegal opcodes (47_system.md, R300 to R305). -/

namespace Sys2Proof.Machine

/-- Opcode 0x10 (R301): a one-byte no-op, or, under `OP10 = halt`, the end of the run. -/
def State.op10 (s : State) (c : Config) : State :=
  match c.op10 with
  | .nop => s.advance 1
  | .halt => (s.setRunning false).advance 1

/-- PREFIX (R143, R304): `op2` is read from the SAME cell, `pc0`, not from `pc0 + 1`. -/
def State.prefixed (s : State) (c : Config) : State := (s.execExt c (s.readByte s.pc)).advance 1

/-- An illegal opcode (R305): reported, `pc <- pc0 + 1`, nothing else. -/
def State.illegal (s : State) : State := s.advance 1

/-- NOP (0x00), R300. -/
def exec_nop (s : State) : Result := .next (s.advance 1)

/-- STOP (0x10), R301. -/
def exec_stop (s : State) : Result := .next (s.op10 Config.jgameboy)

/-- DI (0xF3), R302. -/
def exec_di (s : State) : Result := .next ((s.setIme false).advance 1)

/-- EI (0xFB), R303. -/
def exec_ei (s : State) : Result := .next ((s.setIme true).advance 1)

/-- PREFIX CB (0xCB), R304. -/
def exec_prefix_cb (s : State) : Result := .next (s.prefixed Config.jgameboy)

/-- ILLEGAL_D3 (0xD3), R305. -/
def exec_illegal_d3 (s : State) : Result := .next (s.illegal)

/-- ILLEGAL_DB (0xDB), R305. -/
def exec_illegal_db (s : State) : Result := .next (s.illegal)

/-- ILLEGAL_DD (0xDD), R305. -/
def exec_illegal_dd (s : State) : Result := .next (s.illegal)

/-- ILLEGAL_E3 (0xE3), R305. -/
def exec_illegal_e3 (s : State) : Result := .next (s.illegal)

/-- ILLEGAL_E4 (0xE4), R305. -/
def exec_illegal_e4 (s : State) : Result := .next (s.illegal)

/-- ILLEGAL_EB (0xEB), R305. -/
def exec_illegal_eb (s : State) : Result := .next (s.illegal)

/-- ILLEGAL_EC (0xEC), R305. -/
def exec_illegal_ec (s : State) : Result := .next (s.illegal)

/-- ILLEGAL_ED (0xED), R305. -/
def exec_illegal_ed (s : State) : Result := .next (s.illegal)

/-- ILLEGAL_F4 (0xF4), R305. -/
def exec_illegal_f4 (s : State) : Result := .next (s.illegal)

/-- ILLEGAL_FC (0xFC), R305. -/
def exec_illegal_fc (s : State) : Result := .next (s.illegal)

/-- ILLEGAL_FD (0xFD), R305. -/
def exec_illegal_fd (s : State) : Result := .next (s.illegal)

end Sys2Proof.Machine
end

