-- ==== Sys2Proof/Machine/Step.lean ====
section
/-! DEFINITION. One step of the machine (R141): fetch at `pc`, decode, execute; and where the host's words are placed. -/

namespace Sys2Proof.Machine

/-- The step. A state with `running` clear has none (R140, R152). An opcode in no dispatch stage runs the
unhandled rule (R306); under the default parameters there is none (R93). -/
def step (s : State) : Host.Outcome State Fault Refusal :=
  if s.running then
    match s.fetch with
    | some i => exec i s
    | none => .next s.unhandled
  else .fault .runEnded

/-- `s` with the bytes of a table word, zeros above its `nbits`, stored at `pc`, where `step` fetches (log entry 8). -/
def State.withFetchWord (s : State) (nbits w : Nat) : State := s.writeBytes s.pc (tableBytes nbits w)

end Sys2Proof.Machine
end

