-- ==== Sys2Proof/Safety.lean ====
section
/-! DEFINITION. The terms claims are stated in: the invariant every step keeps, what a store does to memory seen through reads of one byte, the frame of an instruction that writes one slot, and the addresses an instruction may store to. -/

namespace Sys2Proof.Machine

/-- The invariant: memory is in its canonical form, so equal memories are equal data (log entry 2). -/
abbrev State.Inv (s : State) : Prop := s.mem.wf

/-- `t` is `s` but for memory, which reads `v` at `addr` and as before at every other address. -/
def StoresByte (s t : State) (addr : Word) (v : Byte) : Prop :=
  t = { s with mem := t.mem } ∧ t.readByte addr = v ∧ ∀ x : Word, x ≠ addr → t.readByte x = s.readByte x

/-- `t` is `s` but for memory, which reads the word `v`, low byte at `addr` and high byte at `addr + 1` mod 2^16, and
as before at every other address. -/
def StoresWord (s t : State) (addr v : Word) : Prop :=
  t = { s with mem := t.mem } ∧ t.readByte addr = loByte v ∧ t.readByte (addr + 1) = hiByte v ∧
    ∀ x : Word, x ≠ addr → x ≠ addr + 1 → t.readByte x = s.readByte x

/-- The frame of an instruction that writes the slot `z` and leaves `pc` at `pc'` and the flags at `f`: the slot holds
`v`; every other register, `sp`, `running` and `ime` are unchanged; every byte of memory is, but the one at HL when
`z` is the memory slot. For that slot the value is read at the HL of `s`, which is unchanged. -/
def WritesSlot (s t : State) (z : Slot) (v : Byte) (f : Flags) (pc' : Word) : Prop :=
  t.readSlot z = v ∧ t.flags = f ∧ t.pc = pc' ∧ t.sp = s.sp ∧ t.running = s.running ∧ t.ime = s.ime ∧
    (∀ r : Reg, slotReg z ≠ some r → t.getReg r = s.getReg r) ∧
    ∀ x : Word, (z = .mhl → x ≠ s.hl) → t.readByte x = s.readByte x

/-- The addresses an instruction may store to, computed from the state it starts in as its meaning computes them. -/
def storeAddrs (i : Instr) (s : State) : List Word :=
  match i with
  | .ld_mhl_b | .ld_mhl_c | .ld_mhl_d | .ld_mhl_e | .ld_mhl_h | .ld_mhl_l | .ld_mhl_mhl | .ld_mhl_a | .ld_mhl_d8 _
  | .ld_mhli_a | .ld_mhld_a | .inc_mhl | .dec_mhl | .rlc_mhl | .rrc_mhl | .rl_mhl | .rr_mhl | .sla_mhl
  | .sra_mhl | .swap_mhl | .srl_mhl | .res_0_mhl | .res_1_mhl | .res_2_mhl | .res_3_mhl | .res_4_mhl
  | .res_5_mhl | .res_6_mhl | .res_7_mhl | .set_0_mhl | .set_1_mhl | .set_2_mhl | .set_3_mhl | .set_4_mhl
  | .set_5_mhl | .set_6_mhl | .set_7_mhl => [s.hl]
  | .ld_mbc_a => [s.bc]
  | .ld_mde_a => [s.de]
  | .ldh_ma8_a n => [highPage n]
  | .ld_mc_a => [highPage s.c]
  | .ld_ma16_a n => [n]
  | .ld_ma16_sp n => [n, n + 1]
  | .push_bc | .push_de | .push_hl | .push_af | .call_a16 _ | .rst_00h | .rst_08h | .rst_10h | .rst_18h
  | .rst_20h | .rst_28h | .rst_30h | .rst_38h => [s.sp - 1, s.sp - 2]
  | .call_nz_a16 _ => if s.cond .nz then [s.sp - 1, s.sp - 2] else []
  | .call_z_a16 _ => if s.cond .z then [s.sp - 1, s.sp - 2] else []
  | .call_nc_a16 _ => if s.cond .nc then [s.sp - 1, s.sp - 2] else []
  | .call_c_a16 _ => if s.cond .c then [s.sp - 1, s.sp - 2] else []
  -- PREFIX stores only through an extended row other than BIT on slot 6 of the byte at `pc`
  | .prefix_cb => if fieldZ (s.readByte s.pc) = 6 ∧ fieldX (s.readByte s.pc) ≠ 1 then [s.hl] else []
  | _ => []

end Sys2Proof.Machine
end

