-- ==== Sys2Proof/Certificates/Slice0/Obligations.lean ====
section
/-! DEFINITION. The statements for the provers, from the numbered rules of spec/. A docstring says which rule or decision of the spec it formalises and what in it is the spec's decision or the model's own choice. -/

open Sys2Proof Sys2Proof.Machine

/-- O1. For every image, State.construct leaves AF = 0x01B0, BC = 0x0013, DE = 0x00D8, HL = 0x014D, flags 1,0,1,1,
pc = 0x0100, sp = 0xFFFE, ime = 0, running = 1, the 31 table cells at their values, and every other cell the
image byte at its address, or 0x00 past the image. The flags are the unpacking of F = 0xB0, which the spec
marks as derived. [derived: 10_state.md R34 (reset values; the flags are its own derived unpacking of AF),
20_memory.md R66, 70_reset_and_hazards.md R380, R381, R382] -/
def Obligations.ConstructionAndReset : Prop :=
  ∀ image : List Byte,
    let s := State.construct image
    let table : List (Word × Byte) :=
     [(0xFF05, 0x00), (0xFF06, 0x00), (0xFF07, 0x00), (0xFF10, 0x80), (0xFF11, 0xBF), (0xFF12, 0xF3),
      (0xFF14, 0xBF), (0xFF16, 0x3F), (0xFF17, 0x00), (0xFF19, 0xBF), (0xFF1A, 0x7F), (0xFF1B, 0xFF),
      (0xFF1C, 0x9F), (0xFF1E, 0xBF), (0xFF20, 0xFF), (0xFF21, 0x00), (0xFF22, 0x00), (0xFF23, 0xBF),
      (0xFF24, 0x77), (0xFF25, 0xF3), (0xFF26, 0xF1), (0xFF40, 0x91), (0xFF42, 0x00), (0xFF43, 0x00),
      (0xFF45, 0x00), (0xFF47, 0xFC), (0xFF48, 0xFF), (0xFF49, 0xFF), (0xFF4A, 0x00), (0xFF4B, 0x00),
      (0xFFFF, 0x00)]
    s.af = 0x01B0 ∧ s.bc = 0x0013 ∧ s.de = 0x00D8 ∧ s.hl = 0x014D ∧ s.pc = 0x0100 ∧ s.sp = 0xFFFE ∧
      s.flags = { z := true, c := false, h := true, n := true } ∧ s.ime = false ∧ s.running = true ∧
      (∀ p ∈ table, s.readByte p.1 = p.2) ∧
      ∀ x : Word, (∀ p ∈ table, x ≠ p.1) → s.readByte x = (image[x.toNat]?).getD 0

/-- O2. From every state with canonical memory, resetOp gives the reset registers and latches and the reset table,
leaves every cell outside the table as it was (the spec's decision D32), and a second resetOp changes nothing.
[derived: 70_reset_and_hazards.md section 1 (construction and reset), 92_eei_decisions.md D32] -/
def Obligations.ResetKeepsOtherCellsAndIsIdempotent : Prop :=
  ∀ s : State, s.Inv →
    let t := s.resetOp
    t = { State.reset with mem := t.mem } ∧
      (∀ p ∈ resetTable, t.readByte (BitVec.ofNat 16 p.1) = p.2) ∧
      (∀ x : Word, (∀ p ∈ resetTable, x.toNat ≠ p.1) → t.readByte x = s.readByte x) ∧
      t.resetOp = t

/-- O3. Memory right after reset is in canonical form (log entry 2 says what the form is; it is the model's own).
[derived: 10_state.md section 7 (reset values), 20_memory.md section 10] -/
def Obligations.ResetHasCanonicalMemory : Prop :=
  State.reset.Inv

/-- O4. From every state with canonical memory, after writeByte at x the byte at x is the value written, every
other byte and everything but memory is unchanged. [stated: R52] -/
def Obligations.ByteStoreReadsBack : Prop :=
  ∀ (s : State) (x : Word) (v : Byte), s.Inv → StoresByte s (s.writeByte x v) x v

/-- O5. readWord is 256 times the byte at addr + 1 plus the byte at addr; writeWord leaves the low byte at addr,
the high byte at addr + 1 and everything else unchanged, and is read back whole. The wrap at 0xFFFF is the
spec's decision D23. [derived: 20_memory.md section 2 (the access primitives), 92_eei_decisions.md D23] -/
def Obligations.WordAccessIsLittleEndian : Prop :=
  ∀ (s : State) (x v : Word), s.Inv →
    (s.readWord x).toNat = 256 * (s.readByte (x + 1)).toNat + (s.readByte x).toNat ∧
      StoresWord s (s.writeWord x v) x v ∧ (s.writeWord x v).readWord x = v

/-- O6. Push16(v) lowers sp by 2 mod 2^16, stores the high byte at the old sp - 1 and the low byte at the old sp -
2, and nothing else; Pop16 then answers v and returns sp to its original value, popped cells keeping their
contents. [stated: R147, R148] -/
def Obligations.PushThenPopRoundTrips : Prop :=
  ∀ (s : State) (v : Word), s.Inv →
    StoresWord { s with sp := s.sp - 2 } (s.push16 v) (s.sp - 2) v ∧
      (s.push16 v).readByte (s.sp - 1) = hiByte v ∧
      (s.push16 v).topWord = v ∧
      (s.push16 v).dropWord = { s.push16 v with sp := s.sp } ∧
      s.topWord = wordOf (s.readByte (s.sp + 1)) (s.readByte s.sp) ∧
      s.dropWord = { s with sp := s.sp + 2 }

/-- O7. Writing x to BC, DE or HL writes its high byte to the first register and its low byte to the second and
reads back x; writing x to AF writes A and the four flags from bits 7 to 4 and reads back x AND 0xFFF0; F read
is 128 Z + 64 C + 32 H + 16 N; nothing else changes. [stated: R22, R23, R24] -/
def Obligations.PairsAreViewsOfHalves : Prop :=
  ∀ (s : State) (x : Word),
    s.setBC x = { s with b := BitVec.ofNat 8 (x.toNat / 256), c := BitVec.ofNat 8 x.toNat } ∧ (s.setBC x).bc = x ∧
      s.setDE x = { s with d := BitVec.ofNat 8 (x.toNat / 256), e := BitVec.ofNat 8 x.toNat } ∧ (s.setDE x).de = x ∧
      s.setHL x = { s with h := BitVec.ofNat 8 (x.toNat / 256), l := BitVec.ofNat 8 x.toNat } ∧ (s.setHL x).hl = x ∧
      s.setAF x = { s with
        a := BitVec.ofNat 8 (x.toNat / 256)
        flags := { z := x.getLsbD 7, c := x.getLsbD 6, h := x.getLsbD 5, n := x.getLsbD 4 } } ∧
      (s.setAF x).af = x &&& 0xFFF0 ∧
      s.flags.pack.toNat =
        128 * s.flags.z.toNat + 64 * s.flags.c.toNat + 32 * s.flags.h.toNat + 16 * s.flags.n.toNat ∧
      s.bc.toNat = 256 * s.b.toNat + s.c.toNat ∧ s.de.toNat = 256 * s.d.toNat + s.e.toNat ∧
      s.hl.toNat = 256 * s.h.toNat + s.l.toNat ∧ s.af.toNat = 256 * s.a.toNat + s.flags.pack.toNat

/-- O8. For each of the eight slots ReadSlot gives the register or the byte at HL, and WriteSlot changes that
register or that byte only. [stated: R149] -/
def Obligations.SlotAccess : Prop :=
  ∀ (s : State) (v : Byte), s.Inv →
    s.readSlot .b = s.b ∧ s.readSlot .c = s.c ∧ s.readSlot .d = s.d ∧ s.readSlot .e = s.e ∧
      s.readSlot .h = s.h ∧ s.readSlot .l = s.l ∧ s.readSlot .mhl = s.readByte s.hl ∧ s.readSlot .a = s.a ∧
      s.writeSlot .b v = { s with b := v } ∧ s.writeSlot .c v = { s with c := v } ∧
      s.writeSlot .d v = { s with d := v } ∧ s.writeSlot .e v = { s with e := v } ∧
      s.writeSlot .h v = { s with h := v } ∧ s.writeSlot .l v = { s with l := v } ∧
      StoresByte s (s.writeSlot .mhl v) s.hl v ∧ s.writeSlot .a v = { s with a := v }

/-- O9. For all integers, add returns the sum mod 2^8 with Zero = (sum = 0) on the unmasked sum, Carry = bit 8,
HalfCarry = bit 3 of the sum AND bit 3 of b, Negate = 0; sub returns the difference mod 2^8 with Carry = (diff
< 0), Zero = (diff = 0), Negate = 1, HalfCarry = bit 3 of a clear AND bit 3 of b set. For bytes add's Carry is
set exactly when a + b is at least 256 and Zero only for a = b = 0, sub's Carry exactly when a < b and Zero
when a = b. [stated: R110, R112] -/
def Obligations.AddAndSubHelperRule : Prop :=
  (∀ a b : Int,
    (Alu.add a b).1 = BitVec.ofInt 8 (a + b) ∧ ((Alu.add a b).2.z = true ↔ a + b = 0) ∧
      ((Alu.add a b).2.c = true ↔ (a + b) / 256 % 2 = 1) ∧
      ((Alu.add a b).2.h = true ↔ (a + b) / 8 % 2 = 1 ∧ b / 8 % 2 = 1) ∧ (Alu.add a b).2.n = false ∧
      (Alu.sub a b).1 = BitVec.ofInt 8 (a - b) ∧ ((Alu.sub a b).2.c = true ↔ a - b < 0) ∧
      ((Alu.sub a b).2.z = true ↔ a - b = 0) ∧
      ((Alu.sub a b).2.h = true ↔ a / 8 % 2 = 0 ∧ b / 8 % 2 = 1) ∧ (Alu.sub a b).2.n = true) ∧
  ∀ a b : Byte,
    let r := Alu.add (Alu.intOf a) (Alu.intOf b)
    let q := Alu.sub (Alu.intOf a) (Alu.intOf b)
    r.1.toNat = (a.toNat + b.toNat) % 256 ∧ (r.2.z = true ↔ a = 0 ∧ b = 0) ∧
      (r.2.c = true ↔ 256 ≤ a.toNat + b.toNat) ∧
      q.1.toNat = (a.toNat + 256 - b.toNat) % 256 ∧ (q.2.z = true ↔ a = b) ∧ (q.2.c = true ↔ a.toNat < b.toNat)

/-- O10. For all bytes and either incoming Carry, adc under into_a and into_b agree in the value, Zero, Carry and
Negate, and so do sbc's; without an incoming Carry they agree wholly and equal add and sub. [derived:
40_alu_helpers.md section 1, 92_eei_decisions.md D7] -/
def Obligations.CarryFoldChangesOnlyHalfCarry : Prop :=
  ∀ (cin : Bool) (a b : Byte),
    let x := Alu.intOf a
    let y := Alu.intOf b
    (∃ h, Alu.adc .intoB cin x y =
      ((Alu.adc .intoA cin x y).1, { (Alu.adc .intoA cin x y).2 with h := h })) ∧
    (∃ h, Alu.sbc .intoB cin x y =
      ((Alu.sbc .intoA cin x y).1, { (Alu.sbc .intoA cin x y).2 with h := h })) ∧
    ∀ fold, Alu.adc fold false x y = Alu.add x y ∧ Alu.sbc fold false x y = Alu.sub x y

/-- O11. add16(a, b) returns the sum mod 2^16 with Carry when the sum is at least 65536, HalfCarry when bit 11 of
the sum and of b are both set, Negate 0, Zero unchanged. [stated: R120] -/
def Obligations.Add16HelperRule : Prop :=
  ∀ (f : Flags) (a b : Word),
    (Alu.add16 f a b).1.toNat = (a.toNat + b.toNat) % 65536 ∧
      (Alu.add16 f a b).2 =
        { z := f.z, c := decide (65536 ≤ a.toNat + b.toNat),
          h := (a.toNat + b.toNat).testBit 11 && b.toNat.testBit 11, n := false }

/-- O12. For every pair of slots but (HL),(HL): the word is 0b01_yyy_zzz, and the instruction completes with the
destination slot holding what the source slot held before, no flag written, pc + 1, and every other register,
latch and byte of memory unchanged. [stated: R170, R171, R172] -/
def Obligations.LoadBandCopiesSlots : Prop :=
  ∀ (s : State) (d r : Slot), s.Inv → ¬(d = .mhl ∧ r = .mhl) →
    encode (Instr.ldBand d r) = [opOf 1 d.code r.code] ∧
      ∃ t, exec (Instr.ldBand d r) s = .next t ∧ WritesSlot s t d (s.readSlot r) s.flags (s.pc + 1)

/-- O13. LD (HL),(HL) completes; every register, flag and latch and every byte of memory reads as before, and pc
is pc + 1. OP76 = band_move is the spec's decision D15; under OP76 = halt it would clear running. [derived:
42_loads8.md section 1 (the load band), 92_eei_decisions.md D15] -/
def Obligations.Opcode76RewritesItsCell : Prop :=
  ∀ s : State, s.Inv →
    encode .ld_mhl_mhl = [0x76] ∧
    (∃ t, exec .ld_mhl_mhl s = .next t ∧ StoresByte { s with pc := s.pc + 1 } t s.hl (s.readByte s.hl)) ∧
      ∀ c : Config, c.op76 = .halt → s.op76 c = { s with running := false, pc := s.pc + 1 }

/-- O14. For every slot and operand byte: the words are 0b00_yyy_110 and d8, and the instruction completes with
the slot holding d8, no flag written, pc + 2, and every other register, latch and byte unchanged. [stated:
R174, R175] -/
def Obligations.ImmediateLoadsWriteTheirSlot : Prop :=
  ∀ (s : State) (z : Slot) (n : Byte), s.Inv →
    encode (Instr.ldImm z n) = [opOf 0 z.code 6, n] ∧
      ∃ t, exec (Instr.ldImm z n) s = .next t ∧ WritesSlot s t z n s.flags (s.pc + 2)

/-- O15. The stores write A at BC or DE and change nothing else but pc; the loads give A the byte at BC or DE and
change nothing else but pc; each is one byte long. [stated: R176, R177, R178, R179] -/
def Obligations.LoadsThroughBCAndDE : Prop :=
  ∀ s : State, s.Inv →
    encode .ld_mbc_a = [0x02] ∧ encode .ld_mde_a = [0x12] ∧ encode .ld_a_mbc = [0x0A] ∧ encode .ld_a_mde = [0x1A] ∧
      (∃ t, exec .ld_mbc_a s = .next t ∧ StoresByte { s with pc := s.pc + 1 } t (wordOf s.b s.c) s.a) ∧
      (∃ t, exec .ld_mde_a s = .next t ∧ StoresByte { s with pc := s.pc + 1 } t (wordOf s.d s.e) s.a) ∧
      exec .ld_a_mbc s = .next { s with a := s.readByte (wordOf s.b s.c), pc := s.pc + 1 } ∧
      exec .ld_a_mde s = .next { s with a := s.readByte (wordOf s.d s.e), pc := s.pc + 1 }

/-- O16. The access is at the old HL, HL then rises or falls by 1 mod 2^16, no flag is written, pc + 1, nothing
else changes. The forms are the spec's decision D33. [derived: 42_loads8.md section 4, 92_eei_decisions.md
D33] -/
def Obligations.LoadsThroughHLPostModify : Prop :=
  ∀ s : State, s.Inv →
    let up := s.hl + 1
    let down := s.hl - 1
    encode .ld_mhli_a = [0x22] ∧ encode .ld_mhld_a = [0x32] ∧ encode .ld_a_mhli = [0x2A] ∧ encode .ld_a_mhld = [0x3A] ∧
    (∃ t, exec .ld_mhli_a s = .next t ∧
        StoresByte { s with h := hiByte up, l := loByte up, pc := s.pc + 1 } t s.hl s.a) ∧
      (∃ t, exec .ld_mhld_a s = .next t ∧
        StoresByte { s with h := hiByte down, l := loByte down, pc := s.pc + 1 } t s.hl s.a) ∧
      exec .ld_a_mhli s = .next { s with a := s.readByte s.hl, h := hiByte up, l := loByte up, pc := s.pc + 1 } ∧
      exec .ld_a_mhld s = .next { s with a := s.readByte s.hl, h := hiByte down, l := loByte down, pc := s.pc + 1 }

/-- O17. The address is 0xFF00 + a8, 0xFF00 + C or a16; stores write A there and change nothing else but pc, loads
give A the byte there; lengths 2, 1 and 3. The forms are the spec's decision D28. [derived: 42_loads8.md
section 5, 92_eei_decisions.md D28] -/
def Obligations.HighPageAndAbsoluteLoads : Prop :=
  ∀ (s : State) (n : Byte) (w : Word), s.Inv →
    encode (.ldh_ma8_a n) = [0xE0, n] ∧ encode (.ldh_a_ma8 n) = [0xF0, n] ∧ encode .ld_mc_a = [0xE2] ∧
      encode .ld_a_mc = [0xF2] ∧ encode (.ld_ma16_a w) = [0xEA, loByte w, hiByte w] ∧
      encode (.ld_a_ma16 w) = [0xFA, loByte w, hiByte w] ∧
      (∃ t, exec (.ldh_ma8_a n) s = .next t ∧
        StoresByte { s with pc := s.pc + 2 } t (BitVec.ofNat 16 (65280 + n.toNat)) s.a) ∧
      exec (.ldh_a_ma8 n) s =
        .next { s with a := s.readByte (BitVec.ofNat 16 (65280 + n.toNat)), pc := s.pc + 2 } ∧
      (∃ t, exec .ld_mc_a s = .next t ∧
        StoresByte { s with pc := s.pc + 1 } t (BitVec.ofNat 16 (65280 + s.c.toNat)) s.a) ∧
      exec .ld_a_mc s =
        .next { s with a := s.readByte (BitVec.ofNat 16 (65280 + s.c.toNat)), pc := s.pc + 1 } ∧
      (∃ t, exec (.ld_ma16_a w) s = .next t ∧ StoresByte { s with pc := s.pc + 3 } t w s.a) ∧
      exec (.ld_a_ma16 w) s = .next { s with a := s.readByte w, pc := s.pc + 3 }

/-- O18. LD rr,d16 writes the two halves of BC, DE or HL, or sp; LD (a16),SP stores sp little-endian at a16,
wrapping at 0xFFFF; LD SP,HL copies HL; no flag is written and nothing else changes but pc. [stated: R210,
R211, R212] -/
def Obligations.SixteenBitLoads : Prop :=
  ∀ (s : State) (n : Word), s.Inv →
    (∀ p : Pair, encode (Instr.ldPair p n) = [opOf 0 (p.code ++ 0#1) 1, loByte n, hiByte n]) ∧
      encode (.ld_ma16_sp n) = [0x08, loByte n, hiByte n] ∧ encode .ld_sp_hl = [0xF9] ∧
      exec (Instr.ldPair .bc n) s = .next { s with b := hiByte n, c := loByte n, pc := s.pc + 3 } ∧
      exec (Instr.ldPair .de n) s = .next { s with d := hiByte n, e := loByte n, pc := s.pc + 3 } ∧
      exec (Instr.ldPair .hl n) s = .next { s with h := hiByte n, l := loByte n, pc := s.pc + 3 } ∧
      exec (Instr.ldPair .sp n) s = .next { s with sp := n, pc := s.pc + 3 } ∧
      (∃ t, exec (.ld_ma16_sp n) s = .next t ∧ StoresWord { s with pc := s.pc + 3 } t n s.sp) ∧
      exec .ld_sp_hl s = .next { s with sp := wordOf s.h s.l, pc := s.pc + 1 }

/-- O19. The result is sp plus the signed e8 mod 2^16; Zero and Negate are 0, HalfCarry and Carry are the carries
out of bits 3 and 7 of the unsigned sum of sp's low byte and e8, from the old sp. Forms and flags are the
spec's decision D19. [derived: 43_loads16_stack.md (LD HL,SP+e8), 45_alu16.md (ADD SP,e8), 92_eei_decisions.md
D19] -/
def Obligations.StackOffsetArithmetic : Prop :=
  ∀ (s : State) (n : Byte),
    let r := BitVec.ofInt 16 ((s.sp.toNat : Int) + n.toInt)
    let f : Flags :=
      { z := false, c := decide (256 ≤ s.sp.toNat % 256 + n.toNat),
        h := decide (16 ≤ s.sp.toNat % 16 + n.toNat % 16), n := false }
    encode (.ld_hl_sp_e8 n) = [0xF8, n] ∧ encode (.add_sp_e8 n) = [0xE8, n] ∧
      exec (.ld_hl_sp_e8 n) s = .next { s with h := hiByte r, l := loByte r, flags := f, pc := s.pc + 2 } ∧
      exec (.add_sp_e8 n) s = .next { s with sp := r, flags := f, pc := s.pc + 2 }

/-- O20. PUSH stores the high register at sp - 1 and the low one at sp - 2, for AF the byte 128 Z + 64 C + 32 H +
16 N; sp is 2 lower mod 2^16, pc + 1, no flag written, nothing else changes. [stated: R214, R215] -/
def Obligations.PushStoresThePair : Prop :=
  ∀ s : State, s.Inv →
    let flagsByte : Byte :=
      BitVec.ofNat 8 (128 * s.flags.z.toNat + 64 * s.flags.c.toNat + 32 * s.flags.h.toNat + 16 * s.flags.n.toNat)
    let below : State := { s with sp := s.sp - 2, pc := s.pc + 1 }
    (∀ p : StackPair, encode (Instr.push p) = [opOf 3 (p.code ++ 0#1) 5]) ∧
      (∃ t, exec (Instr.push .bc) s = .next t ∧ StoresWord below t (s.sp - 2) (wordOf s.b s.c)) ∧
      (∃ t, exec (Instr.push .de) s = .next t ∧ StoresWord below t (s.sp - 2) (wordOf s.d s.e)) ∧
      (∃ t, exec (Instr.push .hl) s = .next t ∧ StoresWord below t (s.sp - 2) (wordOf s.h s.l)) ∧
      ∃ t, exec (Instr.push .af) s = .next t ∧ StoresWord below t (s.sp - 2) (wordOf s.a flagsByte)

/-- O21. POP gives the low register the byte at sp and the high one the byte at sp + 1, for AF the flags from bits
7, 6, 5, 4 of the low byte; sp is 2 higher mod 2^16, pc + 1, memory and everything else unchanged. [stated:
R216, R217] -/
def Obligations.PopLoadsThePair : Prop :=
  ∀ s : State,
    let lo := s.readByte s.sp
    let hi := s.readByte (s.sp + 1)
    (∀ p : StackPair, encode (Instr.pop p) = [opOf 3 (p.code ++ 0#1) 1]) ∧
      exec (Instr.pop .bc) s = .next { s with b := hi, c := lo, sp := s.sp + 2, pc := s.pc + 1 } ∧
      exec (Instr.pop .de) s = .next { s with d := hi, e := lo, sp := s.sp + 2, pc := s.pc + 1 } ∧
      exec (Instr.pop .hl) s = .next { s with h := hi, l := lo, sp := s.sp + 2, pc := s.pc + 1 } ∧
      exec (Instr.pop .af) s = .next { s with
        a := hi
        flags := { z := decide (128 ≤ lo.toNat), c := lo.toNat.testBit 6, h := lo.toNat.testBit 5,
                   n := lo.toNat.testBit 4 }
        sp := s.sp + 2, pc := s.pc + 1 }

/-- O22. ADD gives A the sum of A and the slot mod 256, Zero only for an unmasked sum of 0, Carry from 256 on,
HalfCarry when bit 3 of the sum and of the operand are set, Negate 0; SUB gives the difference mod 256, Zero
when equal, Carry when A is below the operand, HalfCarry when bit 3 of A is clear and of the operand set,
Negate 1; pc + 1, nothing else changes. [stated: R230, R232] -/
def Obligations.AddAndSubBand : Prop :=
  ∀ (s : State) (z : Slot),
    let x := s.a.toNat
    let y := (s.readSlot z).toNat
    encode (Instr.aluBand .add z) = [opOf 2 0 z.code] ∧ encode (Instr.aluBand .sub z) = [opOf 2 2 z.code] ∧
      exec (Instr.aluBand .add z) s = .next { s with
        a := BitVec.ofNat 8 (x + y)
        flags := { z := decide (x + y = 0), c := decide (256 ≤ x + y), h := (x + y).testBit 3 && y.testBit 3,
                   n := false }
        pc := s.pc + 1 } ∧
      exec (Instr.aluBand .sub z) s = .next { s with
        a := BitVec.ofNat 8 (x + 256 - y)
        flags := { z := decide (x = y), c := decide (x < y), h := !x.testBit 3 && y.testBit 3, n := true }
        pc := s.pc + 1 }

/-- O23. ADC gives A + operand + Carry mod 256, Zero only for an unmasked sum of 0; SBC gives A - Carry - operand
mod 256, Zero when exactly 0, Carry when negative; HalfCarry as add and sub with the Carry folded into A. That
fold is the spec's decision D7. [derived: 44_alu8.md section 1 (the ALU band), 40_alu_helpers.md section 1,
92_eei_decisions.md D7] -/
def Obligations.AdcAndSbcBand : Prop :=
  ∀ (s : State) (z : Slot),
    let x := s.a.toNat
    let y := (s.readSlot z).toNat
    let k := s.flags.c.toNat
    encode (Instr.aluBand .adc z) = [opOf 2 1 z.code] ∧ encode (Instr.aluBand .sbc z) = [opOf 2 3 z.code] ∧
      exec (Instr.aluBand .adc z) s = .next { s with
        a := BitVec.ofNat 8 (x + k + y)
        flags := { z := decide (x + k + y = 0), c := decide (256 ≤ x + k + y),
                   h := (x + k + y).testBit 3 && y.testBit 3, n := false }
        pc := s.pc + 1 } ∧
      exec (Instr.aluBand .sbc z) s = .next { s with
        a := BitVec.ofNat 8 (x + 512 - k - y)
        flags := { z := decide (x = k + y), c := decide (x < k + y),
                   h := !(x + 256 - k).testBit 3 && y.testBit 3, n := true }
        pc := s.pc + 1 }

/-- O24. A becomes the bitwise value of A and the slot; Zero is set exactly when it is 0; Carry and Negate are 0;
HalfCarry is 1 for AND, 0 for XOR and OR; pc + 1, nothing else changes; XOR A always gives 0 with Zero set.
[stated: R234, R235, R236] -/
def Obligations.LogicBand : Prop :=
  ∀ (s : State) (z : Slot),
    let y := s.readSlot z
    encode (Instr.aluBand .and z) = [opOf 2 4 z.code] ∧ encode (Instr.aluBand .xor z) = [opOf 2 5 z.code] ∧ encode (Instr.aluBand .or z) = [opOf 2 6 z.code] ∧
      exec (Instr.aluBand .and z) s = .next { s with
        a := s.a &&& y, flags := { z := decide (s.a &&& y = 0), c := false, h := true, n := false }, pc := s.pc + 1 } ∧
      exec (Instr.aluBand .xor z) s = .next { s with
        a := s.a ^^^ y, flags := { z := decide (s.a ^^^ y = 0), c := false, h := false, n := false }, pc := s.pc + 1 } ∧
      exec (Instr.aluBand .or z) s = .next { s with
        a := s.a ||| y, flags := { z := decide (s.a ||| y = 0), c := false, h := false, n := false }, pc := s.pc + 1 } ∧
      exec .xor_a s = .next { s with
        a := 0, flags := { z := true, c := false, h := false, n := false }, pc := s.pc + 1 }

/-- O25. CP writes the four flags that SUB with the same operand writes and pc + 1, and nothing else; A is not
written. The compare is the spec's decision D11. [derived: 44_alu8.md section 1 (the ALU band),
92_eei_decisions.md D11] -/
def Obligations.CompareBand : Prop :=
  ∀ (s : State) (z : Slot),
    let x := s.a.toNat
    let y := (s.readSlot z).toNat
    encode (Instr.aluBand .cp z) = [opOf 2 7 z.code] ∧
      exec (Instr.aluBand .cp z) s = .next { s with
        flags := { z := decide (x = y), c := decide (x < y), h := !x.testBit 3 && y.testBit 3, n := true }
        pc := s.pc + 1 }

/-- O26. For each of the eight operations and every operand byte, the immediate form completes with the state its
band form on B gives when B holds d8, B itself kept and pc + 2. The immediate forms are the spec's decision
D12. [derived: 44_alu8.md section 2 (ALU with an immediate operand), 92_eei_decisions.md D12] -/
def Obligations.ImmediateAluIsTheBandOnTheOperand : Prop :=
  ∀ (s : State) (op : AluOp) (n : Byte),
    encode (Instr.aluImm op n) = [opOf 3 op.code 6, n] ∧
      ∃ t, exec (Instr.aluBand op .b) { s with b := n } = .next t ∧
        exec (Instr.aluImm op n) s = .next { t with b := s.b, pc := s.pc + 2 } ∧
        t = { s with b := n, a := t.a, flags := t.flags, pc := s.pc + 1 }

/-- O27. INC adds 1 to the slot mod 256 with Zero when it becomes 0, HalfCarry when its low nibble was 0xF, Negate
0; DEC subtracts 1 with Zero when it becomes 0, HalfCarry when its low nibble was 0, Negate 1; Carry is
unchanged, pc + 1, nothing else changes. [stated: R246, R247, R248, R249] -/
def Obligations.IncAndDecSlots : Prop :=
  ∀ (s : State) (z : Slot), s.Inv →
    let x := (s.readSlot z).toNat
    encode (Instr.incSlot z) = [opOf 0 z.code 4] ∧ encode (Instr.decSlot z) = [opOf 0 z.code 5] ∧
      (∃ t, exec (Instr.incSlot z) s = .next t ∧
        WritesSlot s t z (BitVec.ofNat 8 (x + 1))
          { z := decide (x = 255), c := s.flags.c, h := decide (x % 16 = 15), n := false } (s.pc + 1)) ∧
      ∃ t, exec (Instr.decSlot z) s = .next t ∧
        WritesSlot s t z (BitVec.ofNat 8 (x + 255))
          { z := decide (x = 1), c := s.flags.c, h := decide (x % 16 = 0), n := true } (s.pc + 1)

/-- O28. RLCA and RRCA rotate A circularly, RLA and RRA through Carry; Carry is the bit shifted out, Zero is set
exactly when the result is 0, HalfCarry and Negate are 0; pc + 1, nothing else changes. Existence and the Zero
rule (ROTA_Z = helper) are the spec's decision D13. [derived: 44_alu8.md section 4 (accumulator rotates),
92_eei_decisions.md D13] -/
def Obligations.AccumulatorRotates : Prop :=
  ∀ s : State,
    let x := s.a.toNat
    let k := s.flags.c.toNat
    let done (v : Nat) (c : Bool) : State :=
      { s with a := BitVec.ofNat 8 v, flags := { z := decide (v = 0), c := c, h := false, n := false }, pc := s.pc + 1 }
    encode .rlca = [0x07] ∧ encode .rrca = [0x0F] ∧ encode .rla = [0x17] ∧ encode .rra = [0x1F] ∧
      exec .rlca s = .next (done (2 * x % 256 + x / 128) (decide (128 ≤ x))) ∧
      exec .rrca s = .next (done (x / 2 + 128 * (x % 2)) (decide (x % 2 = 1))) ∧
      exec .rla s = .next (done (2 * x % 256 + k) (decide (128 ≤ x))) ∧
      exec .rra s = .next (done (x / 2 + 128 * k) (decide (x % 2 = 1)))

/-- O29. DAA completes with running = 0 and pc + 1 and every register, flag and byte of memory unchanged. That pc
advances is the spec's decision D24. [derived: 44_alu8.md section 5, 92_eei_decisions.md D24] -/
def Obligations.DecimalAdjustStubEndsTheRun : Prop :=
  ∀ s : State, encode .daa = [0x27] ∧ exec .daa s = .next { s with running := false, pc := s.pc + 1 }

/-- O30. CPL complements A and sets Negate and HalfCarry; SCF sets Carry, CCF inverts it, both clear Negate and
HalfCarry; Zero is kept by all three; pc + 1, nothing else changes. All three are the spec's decision D14.
[derived: 44_alu8.md section 5, 92_eei_decisions.md D14] -/
def Obligations.ComplementAndCarryFlag : Prop :=
  ∀ s : State,
    encode .cpl = [0x2F] ∧ encode .scf = [0x37] ∧ encode .ccf = [0x3F] ∧
      exec .cpl s = .next { s with
        a := BitVec.ofNat 8 (255 - s.a.toNat), flags := { s.flags with h := true, n := true }, pc := s.pc + 1 } ∧
      exec .scf s = .next { s with flags := { z := s.flags.z, c := true, h := false, n := false }, pc := s.pc + 1 } ∧
      exec .ccf s = .next { s with flags := { z := s.flags.z, c := !s.flags.c, h := false, n := false }, pc := s.pc + 1 }

/-- O31. HL becomes HL + rr mod 2^16, Carry from 65536 on, HalfCarry when bit 11 of the sum and of rr are set,
Negate 0, Zero kept; pc + 1, nothing else changes. Which argument is b is the spec's decision D37. [derived:
45_alu16.md (ADD HL,rr), 92_eei_decisions.md D37] -/
def Obligations.AddToHL : Prop :=
  ∀ (s : State) (p : Pair),
    let y : Word := match p with
      | .bc => wordOf s.b s.c
      | .de => wordOf s.d s.e
      | .hl => wordOf s.h s.l
      | .sp => s.sp
    let sum := (wordOf s.h s.l).toNat + y.toNat
    encode (Instr.addHL p) = [opOf 0 (p.code ++ 1#1) 1] ∧
      exec (Instr.addHL p) s = .next { s with
        h := BitVec.ofNat 8 (sum / 256), l := BitVec.ofNat 8 sum
        flags := { z := s.flags.z, c := decide (65536 ≤ sum), h := sum.testBit 11 && y.toNat.testBit 11, n := false }
        pc := s.pc + 1 }

/-- O32. INC adds 1 to and DEC subtracts 1 from BC, DE, HL or sp mod 2^16; no flag is written, pc + 1, nothing
else changes. That no flag is written is the spec's decision D20. [derived: 45_alu16.md (INC rr, DEC rr),
92_eei_decisions.md D20] -/
def Obligations.IncAndDecPairs : Prop :=
  ∀ s : State,
    let bc := wordOf s.b s.c
    let de := wordOf s.d s.e
    let hl := wordOf s.h s.l
    (∀ p : Pair, encode (Instr.incPair p) = [opOf 0 (p.code ++ 0#1) 3] ∧
      encode (Instr.decPair p) = [opOf 0 (p.code ++ 1#1) 3]) ∧
    exec .inc_bc s = .next { s with b := hiByte (bc + 1), c := loByte (bc + 1), pc := s.pc + 1 } ∧
      exec .inc_de s = .next { s with d := hiByte (de + 1), e := loByte (de + 1), pc := s.pc + 1 } ∧
      exec .inc_hl s = .next { s with h := hiByte (hl + 1), l := loByte (hl + 1), pc := s.pc + 1 } ∧
      exec .inc_sp s = .next { s with sp := s.sp + 1, pc := s.pc + 1 } ∧
      exec .dec_bc s = .next { s with b := hiByte (bc + 0xFFFF), c := loByte (bc + 0xFFFF), pc := s.pc + 1 } ∧
      exec .dec_de s = .next { s with d := hiByte (de + 0xFFFF), e := loByte (de + 0xFFFF), pc := s.pc + 1 } ∧
      exec .dec_hl s = .next { s with h := hiByte (hl + 0xFFFF), l := loByte (hl + 0xFFFF), pc := s.pc + 1 } ∧
      exec .dec_sp s = .next { s with sp := s.sp + 0xFFFF, pc := s.pc + 1 }

/-- O33. JP goes to a16; JP cc to a16 when the condition on Zero or Carry holds, else to pc + 3; JP (HL) to HL,
reading no memory; nothing else changes. [stated: R280, R281, R282] -/
def Obligations.AbsoluteJumps : Prop :=
  ∀ (s : State) (cc : Cond) (n : Word),
    let taken : Bool := match cc with
      | .nz => !s.flags.z
      | .z => s.flags.z
      | .nc => !s.flags.c
      | .c => s.flags.c
    encode (.jp_a16 n) = [0xC3, loByte n, hiByte n] ∧
      encode (Instr.jpCond cc n) = [opOf 3 (0#1 ++ cc.code) 2, loByte n, hiByte n] ∧ encode .jp_hl = [0xE9] ∧
      exec (.jp_a16 n) s = .next { s with pc := n } ∧
      exec (Instr.jpCond cc n) s = .next { s with pc := if taken then n else s.pc + 3 } ∧
      exec .jp_hl s = .next { s with pc := wordOf s.h s.l }

/-- O34. JR goes to pc + 2 plus the signed e8 mod 2^16; JR cc does when the condition holds, else goes to pc + 2;
nothing else changes. The signed offset is the spec's decision D21. [derived: 46_control.md section 1 (jumps),
92_eei_decisions.md D21] -/
def Obligations.RelativeJumps : Prop :=
  ∀ (s : State) (cc : Cond) (n : Byte),
    let taken : Bool := match cc with
      | .nz => !s.flags.z
      | .z => s.flags.z
      | .nc => !s.flags.c
      | .c => s.flags.c
    let target := BitVec.ofInt 16 ((s.pc.toNat : Int) + 2 + n.toInt)
    encode (.jr_e8 n) = [0x18, n] ∧ encode (Instr.jrCond cc n) = [opOf 0 (1#1 ++ cc.code) 0, n] ∧
      exec (.jr_e8 n) s = .next { s with pc := target } ∧
      exec (Instr.jrCond cc n) s = .next { s with pc := if taken then target else s.pc + 2 }

/-- O35. CALL, and CALL cc when its condition holds, stores pc + 3 little-endian at sp - 2, lowers sp by 2 and
goes to a16, ime and flags unchanged; CALL cc when it does not hold changes only pc, to pc + 3. [stated: R285,
R286] -/
def Obligations.CallsPushTheReturnAddress : Prop :=
  ∀ (s : State) (cc : Cond) (n : Word), s.Inv →
    let taken : Bool := match cc with
      | .nz => !s.flags.z
      | .z => s.flags.z
      | .nc => !s.flags.c
      | .c => s.flags.c
    let called : State := { s with sp := s.sp - 2, pc := n }
    encode (.call_a16 n) = [0xCD, loByte n, hiByte n] ∧
      encode (Instr.callCond cc n) = [opOf 3 (0#1 ++ cc.code) 4, loByte n, hiByte n] ∧
      (∃ t, exec (.call_a16 n) s = .next t ∧ StoresWord called t (s.sp - 2) (s.pc + 3)) ∧
      if taken then ∃ t, exec (Instr.callCond cc n) s = .next t ∧ StoresWord called t (s.sp - 2) (s.pc + 3)
      else exec (Instr.callCond cc n) s = .next { s with pc := s.pc + 3 }

/-- O36. RET gives pc the word at sp and raises sp by 2; RETI does the same and sets ime; nothing else changes.
That pc is exactly the popped address is the spec's decision D6. [derived: 46_control.md section 3 (returns),
92_eei_decisions.md D6] -/
def Obligations.ReturnsPopThePc : Prop :=
  ∀ s : State,
    let top := wordOf (s.readByte (s.sp + 1)) (s.readByte s.sp)
    encode .ret = [0xC9] ∧ encode .reti = [0xD9] ∧
      exec .ret s = .next { s with pc := top, sp := s.sp + 2 } ∧
      exec .reti s = .next { s with pc := top, sp := s.sp + 2, ime := true }

/-- O37. When the condition holds, RET cc gives pc the word at sp and raises sp by 2, else pc is pc + 1 and
nothing is popped. ime is cleared exactly when cc is the condition RETCC_IME_CLEAR_OPCODE names and the return
is taken or RETCC_IME_CLEAR_WHEN is always; both are opaque, so this holds for all eight combinations.
[derived: 46_control.md section 3 (returns), 92_eei_decisions.md D17] -/
def Obligations.ConditionalReturns : Prop :=
  ∀ (s : State) (cc : Cond),
    let taken : Bool := match cc with
      | .nz => !s.flags.z
      | .z => s.flags.z
      | .nc => !s.flags.c
      | .c => s.flags.c
    let ime' : Bool :=
      if cc = Config.openRetccImeClear ∧ (taken = true ∨ Config.openRetccWhen = .always) then false else s.ime
    encode (Instr.retCond cc) = [opOf 3 (0#1 ++ cc.code) 0] ∧
      exec (Instr.retCond cc) s =
        .next (if taken then
          { s with pc := wordOf (s.readByte (s.sp + 1)) (s.readByte s.sp), sp := s.sp + 2, ime := ime' }
        else { s with pc := s.pc + 1, ime := ime' })

/-- O38. For each restart number y, RST stores pc + 1 little-endian at sp - 2, lowers sp by 2, goes to y * 8 and
clears ime; flags and everything else unchanged. [stated: R290] -/
def Obligations.RestartsCallTheirVector : Prop :=
  ∀ (s : State) (y : BitVec 3), s.Inv →
    encode (Instr.rst y) = [opOf 3 y 7] ∧
      ∃ t, exec (Instr.rst y) s = .next t ∧
        StoresWord { s with sp := s.sp - 2, pc := BitVec.ofNat 16 (8 * y.toNat), ime := false } t
          (s.sp - 2) (s.pc + 1)

/-- O39. From every state with canonical memory, CALL a16 completes at a16, and RET from there completes at the
old pc + 3 with the old sp, at every sp, the wrap included. [derived: 46_control.md sections 2, 3 and 5,
92_eei_decisions.md D6] -/
def Obligations.CallThenReturnComesBack : Prop :=
  ∀ (s : State) (n : Word), s.Inv →
    ∃ t u, exec (.call_a16 n) s = .next t ∧ t.pc = n ∧ exec .ret t = .next u ∧
      u = { s with pc := s.pc + 3, mem := t.mem }

/-- O40. NOP and each illegal opcode complete with pc + 1 and every register, flag, latch and byte of memory
unchanged; each is one byte long; running stays as it was. [stated: R300, R305] -/
def Obligations.NopAndIllegalOnlyAdvance : Prop :=
  ∀ s : State,
    encode .nop = [0x00] ∧ exec .nop s = .next { s with pc := s.pc + 1 } ∧
      ∀ p ∈ [(Instr.illegal_d3, (0xD3 : Byte)), (.illegal_db, 0xDB), (.illegal_dd, 0xDD), (.illegal_e3, 0xE3),
        (.illegal_e4, 0xE4), (.illegal_eb, 0xEB), (.illegal_ec, 0xEC), (.illegal_ed, 0xED),
        (.illegal_f4, 0xF4), (.illegal_fc, 0xFC), (.illegal_fd, 0xFD)],
        encode p.1 = [p.2] ∧ exec p.1 s = .next { s with pc := s.pc + 1 }

/-- O41. STOP completes with pc + 1 and nothing else changed (under OP10 = halt it would clear running too); DI
completes with ime = 0, EI with ime = 1, pc + 1, nothing else changed. OP10 = nop is the spec's decision D16,
the immediate effect of DI and EI its D18. [derived: 47_system.md (STOP, DI, EI), 92_eei_decisions.md D16,
D18] -/
def Obligations.StopDiAndEi : Prop :=
  ∀ s : State,
    encode .stop = [0x10] ∧ encode .di = [0xF3] ∧ encode .ei = [0xFB] ∧
      exec .stop s = .next { s with pc := s.pc + 1 } ∧
      exec .di s = .next { s with ime := false, pc := s.pc + 1 } ∧
      exec .ei s = .next { s with ime := true, pc := s.pc + 1 } ∧
      ∀ c : Config, c.op10 = .halt → s.op10 c = { s with running := false, pc := s.pc + 1 }

/-- O42. In every state, the extended row of the byte at pc completes and leaves pc alone (the header of
48_extended.md; log entry 6), and PREFIX completes with the state that row gives and pc + 1. Its word is 0xCB.
[derived: 47_system.md R304, 41_step.md R143, 48_extended.md header (ExecExt does not touch pc), log entry 6] -/
def Obligations.PrefixRunsTheRowOfItsOwnCell : Prop :=
  ∀ s : State,
    encode .prefix_cb = [0xCB] ∧
      ∃ t, exec (extendedRow (s.readByte s.pc)) s = .next t ∧ t.pc = s.pc ∧
        exec .prefix_cb s = .next { t with pc := s.pc + 1 }

/-- O43. In every running state whose byte at pc is 0xCB, the step completes with E = E OR 0x02 and pc + 1, no
flag written and nothing else changed: no program reaches another extended row through step. [derived:
48_extended.md section 3 (what a program can reach), 41_step.md section 1] -/
def Obligations.PrefixedStepIsAlwaysSet1E : Prop :=
  ∀ s : State, s.running = true → s.readByte s.pc = 0xCB →
    step s = .next { s with e := s.e ||| 0x02, pc := s.pc + 1 }

/-- O44. Each writes its slot with the rotated or shifted value, Carry the bit shifted out (0 for SWAP), Zero from
the result but for SLA and SRA, which keep it, HalfCarry and Negate 0, nothing else changed, pc included (log
entry 6). The meanings are the spec's decision D29, Zero and Carry of SRL and SWAP its D8 and D9. [derived:
48_extended.md section 1, 40_alu_helpers.md section 5, 92_eei_decisions.md D8, D9, D10, D29, D30] -/
def Obligations.ExtendedRotatesAndShifts : Prop :=
  ∀ (s : State) (op : RotOp) (z : Slot), s.Inv →
    let x := (s.readSlot z).toNat
    let k := s.flags.c.toNat
    let v : Nat := match op with
      | .rlc => 2 * x % 256 + x / 128
      | .rrc => x / 2 + 128 * (x % 2)
      | .rl => 2 * x % 256 + k
      | .rr => x / 2 + 128 * k
      | .sla => 2 * x % 256
      | .sra => x / 2 + x / 128 * 128
      | .swap => x % 16 * 16 + x / 16
      | .srl => x / 2
    let carry : Bool := match op with
      | .rlc | .rl | .sla => decide (128 ≤ x)
      | .rrc | .rr | .sra | .srl => decide (x % 2 = 1)
      | .swap => false
    let zero : Bool := match op with
      | .sla | .sra => s.flags.z
      | .rlc | .rrc | .rl | .rr | .swap | .srl => decide (v = 0)
    encode (Instr.rotSlot op z) = [opOf 0 op.code z.code] ∧
      ∃ t, exec (Instr.rotSlot op z) s = .next t ∧
        WritesSlot s t z (BitVec.ofNat 8 v) { z := zero, c := carry, h := false, n := false } s.pc

/-- O45. For every bit number and slot, BIT completes with Zero = (bit b of the operand is 0), HalfCarry = Negate
= 0 and everything else, Carry, memory and pc included, unchanged; that pc is untouched is the header of
48_extended.md (log entry 6). [derived: 48_extended.md R329, 48_extended.md header (ExecExt does not touch
pc), log entry 6] -/
def Obligations.ExtendedBitTest : Prop :=
  ∀ (s : State) (b : BitVec 3) (z : Slot),
    encode (Instr.bitSlot b z) = [opOf 1 b z.code] ∧
      exec (Instr.bitSlot b z) s = .next { s with
        flags := { z := decide ((s.readSlot z).toNat / 2 ^ b.toNat % 2 = 0), c := s.flags.c, h := false, n := false } }

/-- O46. For every bit number and slot, RES clears and SET sets bit b of the slot, every other bit of it, every
flag, register, latch, other byte of memory and pc unchanged; that pc is untouched is the header of
48_extended.md (log entry 6). [derived: 48_extended.md R330, R331, 48_extended.md header (ExecExt does not
touch pc), log entry 6] -/
def Obligations.ExtendedBitResetAndSet : Prop :=
  ∀ (s : State) (b : BitVec 3) (z : Slot), s.Inv →
    encode (Instr.resSlot b z) = [opOf 2 b z.code] ∧ encode (Instr.setSlot b z) = [opOf 3 b z.code] ∧
      (∃ t v, exec (Instr.resSlot b z) s = .next t ∧ WritesSlot s t z v s.flags s.pc ∧
        ∀ m < 8, v.getLsbD m = if m = b.toNat then false else (s.readSlot z).getLsbD m) ∧
      ∃ t v, exec (Instr.setSlot b z) s = .next t ∧ WritesSlot s t z v s.flags s.pc ∧
        ∀ m < 8, v.getLsbD m = if m = b.toNat then true else (s.readSlot z).getLsbD m

/-- O47. For every op2 and state, the extended table's decoder answers a row whose one byte is op2, and that row
completes with the state ExecExt(op2) gives, pc untouched. [derived: 48_extended.md (ExecExt), 30_encoding.md
section 3 (the extended map)] -/
def Obligations.ExecExtRunsTheDecodedRow : Prop :=
  ∀ (op2 : Byte) (s : State) (rest : List Byte),
    ∃ i, decodeIn Config.jgameboy .extended (op2 :: rest) = .ok (i, rest) ∧ encode i = [op2] ∧
      exec i s = .next (s.execExt Config.jgameboy op2) ∧ (s.execExt Config.jgameboy op2).pc = s.pc

/-- O48. The bytes 3E 5A, 47, CD 50 01, 27 (the opcodes the source names), 36 27, 08 34 12, 9A, 18 FE, CB 7C, EF,
D3 and the extended 7C decode as the spec says. [derived: 30_encoding.md section 3 (the opcode map),
95_test_vectors.md parts 1 and 3] -/
def Obligations.DecodingSampleWords : Prop :=
  decode Config.jgameboy [0x3E, 0x5A] = .ok (.ld_a_d8 0x5A, []) ∧
    decode Config.jgameboy [0x47] = .ok (.ld_b_a, []) ∧
    decode Config.jgameboy [0xCD, 0x50, 0x01] = .ok (.call_a16 0x0150, []) ∧
    decode Config.jgameboy [0x27] = .ok (.daa, []) ∧
    decode Config.jgameboy [0x36, 0x27] = .ok (.ld_mhl_d8 0x27, []) ∧
    decode Config.jgameboy [0x08, 0x34, 0x12] = .ok (.ld_ma16_sp 0x1234, []) ∧
    decode Config.jgameboy [0x9A] = .ok (.sbc_a_d, []) ∧
    decode Config.jgameboy [0x18, 0xFE] = .ok (.jr_e8 0xFE, []) ∧
    decode Config.jgameboy [0xCB, 0x7C] = .ok (.prefix_cb, [0x7C]) ∧
    decode Config.jgameboy [0xEF] = .ok (.rst_28h, []) ∧
    decode Config.jgameboy [0xD3] = .ok (.illegal_d3, []) ∧
    decodeExt Config.jgameboy [0x7C] = .ok (.bit_7_h, [])

/-- O49. For every instruction of either table, with every operand at every value and whatever bytes follow, the
decoder of its table reads from its encoding exactly it, leaving the bytes that follow. [derived:
30_encoding.md sections 1 to 3] -/
def Obligations.DecodeInvertsEncode : Prop :=
  ∀ (t : Table) (i : Instr), WellFormed t i →
    ∀ rest, decodeIn Config.jgameboy t (encode i ++ rest) = .ok (i, rest)

/-- O50. For every three bytes and either table the decoder answers an instruction of that table whose encoding,
followed by the bytes left, is those three bytes: no opcode is refused, two opcodes never share an
instruction, and no bit of an encoding is dropped. [derived: 30_encoding.md section 5 (decoding is total),
30_encoding.md section 3] -/
def Obligations.DecodingIsTotalAndFaithful : Prop :=
  ∀ (t : Table) (b0 b1 b2 : Byte),
    ∃ i rest, decodeIn Config.jgameboy t [b0, b1, b2] = .ok (i, rest) ∧ WellFormed t i ∧
      encode i ++ rest = [b0, b1, b2]

/-- O51. For every parameter setting: the prefix value decodes to PREFIX; an illegal value that is no prefix to
the row of that value, or to the unhandled class if it has none; a value in neither and left out of
RECOGNISED_PRIMARY is unhandled; one in none of these with x = 1 is the load band entry of its fields, with x
= 2 the ALU band entry. How non-default sets are held is the model's choice (log entry 7). [derived:
30_encoding.md section 3 (two-tier dispatch), 30_encoding.md section 4] -/
def Obligations.DispatchOrder : Prop :=
  ∀ (c : Config) (op : Byte) (rest : List Byte),
    (op = c.prefixOp → decode c (op :: rest) = .ok (.prefix_cb, rest)) ∧
      (op ≠ c.prefixOp → op ∈ c.illegalSet →
        (op ∈ Config.illegalOpcodes ∧ ∃ i, decode c (op :: rest) = .ok (i, rest) ∧ encode i = [op] ∧
          ∀ s, exec i s = .next s.unhandled) ∨
        (op ∉ Config.illegalOpcodes ∧ decode c (op :: rest) = .error (.unhandled op))) ∧
      (op ≠ c.prefixOp → op ∉ c.illegalSet → op ∈ c.unhandledPrimary →
        decode c (op :: rest) = .error (.unhandled op)) ∧
      (op ≠ c.prefixOp → op ∉ c.illegalSet → op ∉ c.unhandledPrimary →
        (∀ d r : Slot, op = opOf 1 d.code r.code → decode c (op :: rest) = .ok (Instr.ldBand d r, rest)) ∧
        ∀ (o : AluOp) (r : Slot), op = opOf 2 o.code r.code →
          decode c (op :: rest) = .ok (Instr.aluBand o r, rest))

/-- O52. When running is set and the bytes at pc, pc + 1 and pc + 2 (mod 2^16) decode to i, step is exec of i at
that same state; step adds nothing around it. [derived: 41_step.md section 1 (the agent and its step)] -/
def Obligations.StepRunsTheDecodedInstruction : Prop :=
  ∀ (s : State) (i : Instr) (rest : List Byte), s.running = true →
    decode Config.jgameboy [s.readByte s.pc, s.readByte (s.pc + 1), s.readByte (s.pc + 2)] = .ok (i, rest) →
    step s = exec i s

/-- O53. From every state with running set, whatever its registers and memory hold, step answers a next state, by
running a primary instruction found at pc: nothing traps and nothing is refused. With running clear step
answers the fault runEnded: the spec defines no step there (its decision D5), and that the model says so by a
fault is the model's choice (log entry 5). [derived: 60_exceptions.md section 1 (exceptions), 30_encoding.md
section 5, 41_step.md section 1, 92_eei_decisions.md D5] -/
def Obligations.StepsCompleteExactlyWhileRunning : Prop :=
  ∀ s : State,
    (s.running = true → ∃ i t, s.fetch = some i ∧ WellFormed .primary i ∧ exec i s = .next t ∧ step s = .next t) ∧
      (s.running = false → step s = .fault .runEnded)

/-- O54. From every state whose memory is canonical (log entry 2), if step answers a next state its memory is
canonical. [derived: 20_memory.md sections 1 and 2] -/
def Obligations.StepsKeepCanonicalMemory : Prop :=
  ∀ s t : State, s.Inv → step s = .next t → t.Inv

/-- O55. For every step of a running state, running is clear after it exactly when the byte at pc was 0x27. It
rests on the defaults OP76 = band_move and OP10 = nop, the spec's decisions D15 and D16. [derived: 10_state.md
section 3 (latches), 41_step.md section 4 (end of run), 92_eei_decisions.md D15, D16] -/
def Obligations.OnlyOpcode27EndsTheRun : Prop :=
  ∀ s t : State, s.running = true → step s = .next t → (t.running = false ↔ s.readByte s.pc = 0x27)

/-- O56. For every step: after 0xFB and 0xD9 ime is 1; after 0xF3 and the eight RST opcodes it is 0; after the
conditional return the open parameters select (taken, or always) it is 0; after every other opcode it is as
before. Holds for all eight settings of the open parameters (log entry 3). [derived: 60_exceptions.md section
2 (interrupts), 10_state.md section 3 (latches), 92_eei_decisions.md D17] -/
def Obligations.ImeIsWrittenOnlyByItsInstructions : Prop :=
  ∀ s t : State, step s = .next t →
    let op := s.readByte s.pc
    let cc := Config.openRetccImeClear
    let taken : Bool := match cc with
      | .nz => !s.flags.z
      | .z => s.flags.z
      | .nc => !s.flags.c
      | .c => s.flags.c
    t.ime =
      if op = 0xFB ∨ op = 0xD9 then true
      else if op = 0xF3 ∨ op ∈ [(0xC7 : Byte), 0xCF, 0xD7, 0xDF, 0xE7, 0xEF, 0xF7, 0xFF] then false
      else if op = opOf 3 (0#1 ++ cc.code) 0 ∧ (taken = true ∨ Config.openRetccWhen = .always) then false
      else s.ime

/-- O57. Two running states that differ only in ime step to states that differ at most in ime. [derived:
60_exceptions.md section 2 (interrupts)] -/
def Obligations.ImeIsReadByNothing : Prop :=
  ∀ (s : State) (v : Bool), s.running = true →
    ∃ (t : State) (w : Bool), step s = .next t ∧ step { s with ime := v } = .next { t with ime := w }

/-- O58. Two running states that differ only in HalfCarry and Negate, the opcode at pc not 0xF5, step to states
that differ at most in HalfCarry and Negate: no condition and no other instruction reads them. [derived:
10_state.md section 8 (readers of flags)] -/
def Obligations.HalfCarryAndNegateAreReadOnlyByPushAF : Prop :=
  ∀ (s : State) (h n : Bool), s.running = true → s.readByte s.pc ≠ 0xF5 →
    ∃ (t : State) (h' n' : Bool), step s = .next t ∧
      step { s with flags := { s.flags with h := h, n := n } } =
        .next { t with flags := { t.flags with h := h', n := n' } }

/-- O59. For every instruction and state, if exec answers a next state then every byte whose address is not among
those the instruction stores to (computed from its operands and the state it starts in: HL, BC, DE, the high
page, a16, the two bytes below sp; none for the others) reads as before. [derived: 20_memory.md section 5,
10_state.md section 8, 40_alu_helpers.md section 7 (frame law)] -/
def Obligations.MemoryFrameOfEveryInstruction : Prop :=
  ∀ (i : Instr) (s t : State), exec i s = .next t →
    ∀ x : Word, x ∉ storeAddrs i s → t.readByte x = s.readByte x

/-- O60. In every running state with canonical memory whose byte at pc is 0x77 (LD (HL),A) and whose HL is pc + 1,
the step completes with pc + 1 and the byte then at pc is A: self-modifying code needs no fence. [derived:
20_memory.md section 8 (instruction-fetch coherence)] -/
def Obligations.StoreIsSeenByTheNextFetch : Prop :=
  ∀ s : State, s.Inv → s.running = true → s.readByte s.pc = 0x77 → s.hl = s.pc + 1 →
    ∃ t, step s = .next t ∧ t.pc = s.pc + 1 ∧ t.fetchBytes.head? = some s.a
end

