-- ==== Sys2Proof/Laws/State.lean ====
section
/-! SUPPORT. What each named update of the state leaves in each field, one lemma per field per update, so that no proof unfolds a record update. -/

namespace Sys2Proof.Machine

variable (s : State)

@[simp] theorem State.setFlags_a (f : Flags) : (s.setFlags f).a = s.a := rfl
@[simp] theorem State.setFlags_b (f : Flags) : (s.setFlags f).b = s.b := rfl
@[simp] theorem State.setFlags_c (f : Flags) : (s.setFlags f).c = s.c := rfl
@[simp] theorem State.setFlags_d (f : Flags) : (s.setFlags f).d = s.d := rfl
@[simp] theorem State.setFlags_e (f : Flags) : (s.setFlags f).e = s.e := rfl
@[simp] theorem State.setFlags_h (f : Flags) : (s.setFlags f).h = s.h := rfl
@[simp] theorem State.setFlags_l (f : Flags) : (s.setFlags f).l = s.l := rfl
@[simp] theorem State.setFlags_flags (f : Flags) : (s.setFlags f).flags = f := rfl
@[simp] theorem State.setFlags_pc (f : Flags) : (s.setFlags f).pc = s.pc := rfl
@[simp] theorem State.setFlags_sp (f : Flags) : (s.setFlags f).sp = s.sp := rfl
@[simp] theorem State.setFlags_running (f : Flags) : (s.setFlags f).running = s.running := rfl
@[simp] theorem State.setFlags_ime (f : Flags) : (s.setFlags f).ime = s.ime := rfl
@[simp] theorem State.setFlags_mem (f : Flags) : (s.setFlags f).mem = s.mem := rfl

@[simp] theorem State.setBC_a (v : Word) : (s.setBC v).a = s.a := rfl
@[simp] theorem State.setBC_b (v : Word) : (s.setBC v).b = hiByte v := rfl
@[simp] theorem State.setBC_c (v : Word) : (s.setBC v).c = loByte v := rfl
@[simp] theorem State.setBC_d (v : Word) : (s.setBC v).d = s.d := rfl
@[simp] theorem State.setBC_e (v : Word) : (s.setBC v).e = s.e := rfl
@[simp] theorem State.setBC_h (v : Word) : (s.setBC v).h = s.h := rfl
@[simp] theorem State.setBC_l (v : Word) : (s.setBC v).l = s.l := rfl
@[simp] theorem State.setBC_flags (v : Word) : (s.setBC v).flags = s.flags := rfl
@[simp] theorem State.setBC_pc (v : Word) : (s.setBC v).pc = s.pc := rfl
@[simp] theorem State.setBC_sp (v : Word) : (s.setBC v).sp = s.sp := rfl
@[simp] theorem State.setBC_running (v : Word) : (s.setBC v).running = s.running := rfl
@[simp] theorem State.setBC_ime (v : Word) : (s.setBC v).ime = s.ime := rfl
@[simp] theorem State.setBC_mem (v : Word) : (s.setBC v).mem = s.mem := rfl

@[simp] theorem State.setDE_a (v : Word) : (s.setDE v).a = s.a := rfl
@[simp] theorem State.setDE_b (v : Word) : (s.setDE v).b = s.b := rfl
@[simp] theorem State.setDE_c (v : Word) : (s.setDE v).c = s.c := rfl
@[simp] theorem State.setDE_d (v : Word) : (s.setDE v).d = hiByte v := rfl
@[simp] theorem State.setDE_e (v : Word) : (s.setDE v).e = loByte v := rfl
@[simp] theorem State.setDE_h (v : Word) : (s.setDE v).h = s.h := rfl
@[simp] theorem State.setDE_l (v : Word) : (s.setDE v).l = s.l := rfl
@[simp] theorem State.setDE_flags (v : Word) : (s.setDE v).flags = s.flags := rfl
@[simp] theorem State.setDE_pc (v : Word) : (s.setDE v).pc = s.pc := rfl
@[simp] theorem State.setDE_sp (v : Word) : (s.setDE v).sp = s.sp := rfl
@[simp] theorem State.setDE_running (v : Word) : (s.setDE v).running = s.running := rfl
@[simp] theorem State.setDE_ime (v : Word) : (s.setDE v).ime = s.ime := rfl
@[simp] theorem State.setDE_mem (v : Word) : (s.setDE v).mem = s.mem := rfl

@[simp] theorem State.setHL_a (v : Word) : (s.setHL v).a = s.a := rfl
@[simp] theorem State.setHL_b (v : Word) : (s.setHL v).b = s.b := rfl
@[simp] theorem State.setHL_c (v : Word) : (s.setHL v).c = s.c := rfl
@[simp] theorem State.setHL_d (v : Word) : (s.setHL v).d = s.d := rfl
@[simp] theorem State.setHL_e (v : Word) : (s.setHL v).e = s.e := rfl
@[simp] theorem State.setHL_h (v : Word) : (s.setHL v).h = hiByte v := rfl
@[simp] theorem State.setHL_l (v : Word) : (s.setHL v).l = loByte v := rfl
@[simp] theorem State.setHL_flags (v : Word) : (s.setHL v).flags = s.flags := rfl
@[simp] theorem State.setHL_pc (v : Word) : (s.setHL v).pc = s.pc := rfl
@[simp] theorem State.setHL_sp (v : Word) : (s.setHL v).sp = s.sp := rfl
@[simp] theorem State.setHL_running (v : Word) : (s.setHL v).running = s.running := rfl
@[simp] theorem State.setHL_ime (v : Word) : (s.setHL v).ime = s.ime := rfl
@[simp] theorem State.setHL_mem (v : Word) : (s.setHL v).mem = s.mem := rfl

@[simp] theorem State.setAF_a (v : Word) : (s.setAF v).a = hiByte v := rfl
@[simp] theorem State.setAF_b (v : Word) : (s.setAF v).b = s.b := rfl
@[simp] theorem State.setAF_c (v : Word) : (s.setAF v).c = s.c := rfl
@[simp] theorem State.setAF_d (v : Word) : (s.setAF v).d = s.d := rfl
@[simp] theorem State.setAF_e (v : Word) : (s.setAF v).e = s.e := rfl
@[simp] theorem State.setAF_h (v : Word) : (s.setAF v).h = s.h := rfl
@[simp] theorem State.setAF_l (v : Word) : (s.setAF v).l = s.l := rfl
@[simp] theorem State.setAF_flags (v : Word) : (s.setAF v).flags = Flags.unpack (loByte v) := rfl
@[simp] theorem State.setAF_pc (v : Word) : (s.setAF v).pc = s.pc := rfl
@[simp] theorem State.setAF_sp (v : Word) : (s.setAF v).sp = s.sp := rfl
@[simp] theorem State.setAF_running (v : Word) : (s.setAF v).running = s.running := rfl
@[simp] theorem State.setAF_ime (v : Word) : (s.setAF v).ime = s.ime := rfl
@[simp] theorem State.setAF_mem (v : Word) : (s.setAF v).mem = s.mem := rfl

@[simp] theorem State.setSP_a (v : Word) : (s.setSP v).a = s.a := rfl
@[simp] theorem State.setSP_b (v : Word) : (s.setSP v).b = s.b := rfl
@[simp] theorem State.setSP_c (v : Word) : (s.setSP v).c = s.c := rfl
@[simp] theorem State.setSP_d (v : Word) : (s.setSP v).d = s.d := rfl
@[simp] theorem State.setSP_e (v : Word) : (s.setSP v).e = s.e := rfl
@[simp] theorem State.setSP_h (v : Word) : (s.setSP v).h = s.h := rfl
@[simp] theorem State.setSP_l (v : Word) : (s.setSP v).l = s.l := rfl
@[simp] theorem State.setSP_flags (v : Word) : (s.setSP v).flags = s.flags := rfl
@[simp] theorem State.setSP_pc (v : Word) : (s.setSP v).pc = s.pc := rfl
@[simp] theorem State.setSP_sp (v : Word) : (s.setSP v).sp = v := rfl
@[simp] theorem State.setSP_running (v : Word) : (s.setSP v).running = s.running := rfl
@[simp] theorem State.setSP_ime (v : Word) : (s.setSP v).ime = s.ime := rfl
@[simp] theorem State.setSP_mem (v : Word) : (s.setSP v).mem = s.mem := rfl

@[simp] theorem State.setRunning_a (v : Bool) : (s.setRunning v).a = s.a := rfl
@[simp] theorem State.setRunning_b (v : Bool) : (s.setRunning v).b = s.b := rfl
@[simp] theorem State.setRunning_c (v : Bool) : (s.setRunning v).c = s.c := rfl
@[simp] theorem State.setRunning_d (v : Bool) : (s.setRunning v).d = s.d := rfl
@[simp] theorem State.setRunning_e (v : Bool) : (s.setRunning v).e = s.e := rfl
@[simp] theorem State.setRunning_h (v : Bool) : (s.setRunning v).h = s.h := rfl
@[simp] theorem State.setRunning_l (v : Bool) : (s.setRunning v).l = s.l := rfl
@[simp] theorem State.setRunning_flags (v : Bool) : (s.setRunning v).flags = s.flags := rfl
@[simp] theorem State.setRunning_pc (v : Bool) : (s.setRunning v).pc = s.pc := rfl
@[simp] theorem State.setRunning_sp (v : Bool) : (s.setRunning v).sp = s.sp := rfl
@[simp] theorem State.setRunning_running (v : Bool) : (s.setRunning v).running = v := rfl
@[simp] theorem State.setRunning_ime (v : Bool) : (s.setRunning v).ime = s.ime := rfl
@[simp] theorem State.setRunning_mem (v : Bool) : (s.setRunning v).mem = s.mem := rfl

@[simp] theorem State.setIme_a (v : Bool) : (s.setIme v).a = s.a := rfl
@[simp] theorem State.setIme_b (v : Bool) : (s.setIme v).b = s.b := rfl
@[simp] theorem State.setIme_c (v : Bool) : (s.setIme v).c = s.c := rfl
@[simp] theorem State.setIme_d (v : Bool) : (s.setIme v).d = s.d := rfl
@[simp] theorem State.setIme_e (v : Bool) : (s.setIme v).e = s.e := rfl
@[simp] theorem State.setIme_h (v : Bool) : (s.setIme v).h = s.h := rfl
@[simp] theorem State.setIme_l (v : Bool) : (s.setIme v).l = s.l := rfl
@[simp] theorem State.setIme_flags (v : Bool) : (s.setIme v).flags = s.flags := rfl
@[simp] theorem State.setIme_pc (v : Bool) : (s.setIme v).pc = s.pc := rfl
@[simp] theorem State.setIme_sp (v : Bool) : (s.setIme v).sp = s.sp := rfl
@[simp] theorem State.setIme_running (v : Bool) : (s.setIme v).running = s.running := rfl
@[simp] theorem State.setIme_ime (v : Bool) : (s.setIme v).ime = v := rfl
@[simp] theorem State.setIme_mem (v : Bool) : (s.setIme v).mem = s.mem := rfl

@[simp] theorem State.advance_a (n : Word) : (s.advance n).a = s.a := rfl
@[simp] theorem State.advance_b (n : Word) : (s.advance n).b = s.b := rfl
@[simp] theorem State.advance_c (n : Word) : (s.advance n).c = s.c := rfl
@[simp] theorem State.advance_d (n : Word) : (s.advance n).d = s.d := rfl
@[simp] theorem State.advance_e (n : Word) : (s.advance n).e = s.e := rfl
@[simp] theorem State.advance_h (n : Word) : (s.advance n).h = s.h := rfl
@[simp] theorem State.advance_l (n : Word) : (s.advance n).l = s.l := rfl
@[simp] theorem State.advance_flags (n : Word) : (s.advance n).flags = s.flags := rfl
@[simp] theorem State.advance_pc (n : Word) : (s.advance n).pc = s.pc + n := rfl
@[simp] theorem State.advance_sp (n : Word) : (s.advance n).sp = s.sp := rfl
@[simp] theorem State.advance_running (n : Word) : (s.advance n).running = s.running := rfl
@[simp] theorem State.advance_ime (n : Word) : (s.advance n).ime = s.ime := rfl
@[simp] theorem State.advance_mem (n : Word) : (s.advance n).mem = s.mem := rfl

@[simp] theorem State.jump_a (t : Word) : (s.jump t).a = s.a := rfl
@[simp] theorem State.jump_b (t : Word) : (s.jump t).b = s.b := rfl
@[simp] theorem State.jump_c (t : Word) : (s.jump t).c = s.c := rfl
@[simp] theorem State.jump_d (t : Word) : (s.jump t).d = s.d := rfl
@[simp] theorem State.jump_e (t : Word) : (s.jump t).e = s.e := rfl
@[simp] theorem State.jump_h (t : Word) : (s.jump t).h = s.h := rfl
@[simp] theorem State.jump_l (t : Word) : (s.jump t).l = s.l := rfl
@[simp] theorem State.jump_flags (t : Word) : (s.jump t).flags = s.flags := rfl
@[simp] theorem State.jump_pc (t : Word) : (s.jump t).pc = t := rfl
@[simp] theorem State.jump_sp (t : Word) : (s.jump t).sp = s.sp := rfl
@[simp] theorem State.jump_running (t : Word) : (s.jump t).running = s.running := rfl
@[simp] theorem State.jump_ime (t : Word) : (s.jump t).ime = s.ime := rfl
@[simp] theorem State.jump_mem (t : Word) : (s.jump t).mem = s.mem := rfl

@[simp] theorem State.writeByte_a (x : Word) (v : Byte) : (s.writeByte x v).a = s.a := rfl
@[simp] theorem State.writeByte_b (x : Word) (v : Byte) : (s.writeByte x v).b = s.b := rfl
@[simp] theorem State.writeByte_c (x : Word) (v : Byte) : (s.writeByte x v).c = s.c := rfl
@[simp] theorem State.writeByte_d (x : Word) (v : Byte) : (s.writeByte x v).d = s.d := rfl
@[simp] theorem State.writeByte_e (x : Word) (v : Byte) : (s.writeByte x v).e = s.e := rfl
@[simp] theorem State.writeByte_h (x : Word) (v : Byte) : (s.writeByte x v).h = s.h := rfl
@[simp] theorem State.writeByte_l (x : Word) (v : Byte) : (s.writeByte x v).l = s.l := rfl
@[simp] theorem State.writeByte_flags (x : Word) (v : Byte) : (s.writeByte x v).flags = s.flags := rfl
@[simp] theorem State.writeByte_pc (x : Word) (v : Byte) : (s.writeByte x v).pc = s.pc := rfl
@[simp] theorem State.writeByte_sp (x : Word) (v : Byte) : (s.writeByte x v).sp = s.sp := rfl
@[simp] theorem State.writeByte_running (x : Word) (v : Byte) : (s.writeByte x v).running = s.running := rfl
@[simp] theorem State.writeByte_ime (x : Word) (v : Byte) : (s.writeByte x v).ime = s.ime := rfl
@[simp] theorem State.writeByte_mem (x : Word) (v : Byte) : (s.writeByte x v).mem = s.mem.write x.toNat v := rfl

@[simp] theorem State.setReg_flags (r : Reg) (v : Byte) : (s.setReg r v).flags = s.flags := by cases r <;> rfl
@[simp] theorem State.setReg_pc (r : Reg) (v : Byte) : (s.setReg r v).pc = s.pc := by cases r <;> rfl
@[simp] theorem State.setReg_sp (r : Reg) (v : Byte) : (s.setReg r v).sp = s.sp := by cases r <;> rfl
@[simp] theorem State.setReg_running (r : Reg) (v : Byte) : (s.setReg r v).running = s.running := by cases r <;> rfl
@[simp] theorem State.setReg_ime (r : Reg) (v : Byte) : (s.setReg r v).ime = s.ime := by cases r <;> rfl
@[simp] theorem State.setReg_mem (r : Reg) (v : Byte) : (s.setReg r v).mem = s.mem := by cases r <;> rfl

@[simp] theorem State.setReg_getReg (r q : Reg) (v : Byte) :
    (s.setReg r v).getReg q = if q = r then v else s.getReg q := by
  cases r <;> cases q <;> rfl

@[simp] theorem State.setFlags_getReg (f : Flags) (q : Reg) : (s.setFlags f).getReg q = s.getReg q := by cases q <;> rfl
@[simp] theorem State.setSP_getReg (v : Word) (q : Reg) : (s.setSP v).getReg q = s.getReg q := by cases q <;> rfl
@[simp] theorem State.setRunning_getReg (v : Bool) (q : Reg) : (s.setRunning v).getReg q = s.getReg q := by cases q <;> rfl
@[simp] theorem State.setIme_getReg (v : Bool) (q : Reg) : (s.setIme v).getReg q = s.getReg q := by cases q <;> rfl
@[simp] theorem State.advance_getReg (n : Word) (q : Reg) : (s.advance n).getReg q = s.getReg q := by cases q <;> rfl
@[simp] theorem State.jump_getReg (t : Word) (q : Reg) : (s.jump t).getReg q = s.getReg q := by cases q <;> rfl
@[simp] theorem State.writeByte_getReg (x : Word) (v : Byte) (q : Reg) : (s.writeByte x v).getReg q = s.getReg q := by cases q <;> rfl

@[simp] theorem State.setFlags_hl (f : Flags) : (s.setFlags f).hl = s.hl := rfl
@[simp] theorem State.setBC_hl (v : Word) : (s.setBC v).hl = s.hl := rfl
@[simp] theorem State.setDE_hl (v : Word) : (s.setDE v).hl = s.hl := rfl
@[simp] theorem State.setAF_hl (v : Word) : (s.setAF v).hl = s.hl := rfl
@[simp] theorem State.setSP_hl (v : Word) : (s.setSP v).hl = s.hl := rfl
@[simp] theorem State.setRunning_hl (v : Bool) : (s.setRunning v).hl = s.hl := rfl
@[simp] theorem State.setIme_hl (v : Bool) : (s.setIme v).hl = s.hl := rfl
@[simp] theorem State.advance_hl (n : Word) : (s.advance n).hl = s.hl := rfl
@[simp] theorem State.jump_hl (t : Word) : (s.jump t).hl = s.hl := rfl
@[simp] theorem State.writeByte_hl (x : Word) (v : Byte) : (s.writeByte x v).hl = s.hl := rfl
@[simp] theorem State.setFlags_readByte (f : Flags) (y : Word) : (s.setFlags f).readByte y = s.readByte y := rfl
@[simp] theorem State.setBC_readByte (v : Word) (y : Word) : (s.setBC v).readByte y = s.readByte y := rfl
@[simp] theorem State.setDE_readByte (v : Word) (y : Word) : (s.setDE v).readByte y = s.readByte y := rfl
@[simp] theorem State.setHL_readByte (v : Word) (y : Word) : (s.setHL v).readByte y = s.readByte y := rfl
@[simp] theorem State.setAF_readByte (v : Word) (y : Word) : (s.setAF v).readByte y = s.readByte y := rfl
@[simp] theorem State.setSP_readByte (v : Word) (y : Word) : (s.setSP v).readByte y = s.readByte y := rfl
@[simp] theorem State.setRunning_readByte (v : Bool) (y : Word) : (s.setRunning v).readByte y = s.readByte y := rfl
@[simp] theorem State.setIme_readByte (v : Bool) (y : Word) : (s.setIme v).readByte y = s.readByte y := rfl
@[simp] theorem State.advance_readByte (n : Word) (y : Word) : (s.advance n).readByte y = s.readByte y := rfl
@[simp] theorem State.jump_readByte (t : Word) (y : Word) : (s.jump t).readByte y = s.readByte y := rfl
@[simp] theorem State.setReg_readByte (r : Reg) (v : Byte) (y : Word) : (s.setReg r v).readByte y = s.readByte y := by cases r <;> rfl

/-- Two states with the same fields are the same state. -/
theorem State.ext_fields {s t : State} (ha : s.a = t.a) (hb : s.b = t.b) (hc : s.c = t.c) (hd : s.d = t.d)
    (he : s.e = t.e) (hh : s.h = t.h) (hl : s.l = t.l) (hf : s.flags = t.flags) (hpc : s.pc = t.pc)
    (hsp : s.sp = t.sp) (hr : s.running = t.running) (hi : s.ime = t.ime) (hm : s.mem = t.mem) : s = t := by
  cases s; cases t; simp_all

end Sys2Proof.Machine
end

