-- ==== Sys2Proof/Laws/Memory.lean ====
section
/-! SUPPORT. Memory: a read after a write, and that every memory operation keeps the canonical form. -/

namespace Sys2Proof.Machine

/-- An address below every listed one reads as unlisted. -/
theorem Memory.read_below {m : Memory} {a : Nat} (h : ∀ x ∈ m, a < x.1) : m.read a = Memory.unlisted a := by
  induction m with
  | nil => rfl
  | cons x rest ih =>
    have hx : a < x.1 := h x (by simp)
    simp only [Memory.read, if_neg (Nat.ne_of_gt hx)]
    exact ih fun y hy => h y (by simp [hy])

/-- A write leaves every other address as it was, in any list. -/
theorem Memory.read_write_ne (m : Memory) {a b : Nat} (v : Byte) (h : b ≠ a) :
    (m.write a v).read b = m.read b := by
  induction m with
  | nil => simp only [Memory.write]; split <;> simp [Memory.read, Ne.symm h]
  | cons x rest ih =>
    obtain ⟨k, w⟩ := x
    simp only [Memory.write]
    split
    · split <;> simp [Memory.read, Ne.symm h]
    · split
      · next hk => subst hk; split <;> simp [Memory.read, Ne.symm h]
      · simp only [Memory.read, ih]

/-- A read of the address just written gives the value written, in canonical memory. -/
theorem Memory.read_write_same {m : Memory} (hm : m.wf) (a : Nat) (v : Byte) : (m.write a v).read a = v := by
  induction m with
  | nil => simp only [Memory.write]; split <;> simp_all [Memory.read]
  | cons x rest ih =>
    obtain ⟨k, w⟩ := x
    obtain ⟨hp, hv⟩ := hm
    rw [List.pairwise_cons] at hp
    have hrest : Memory.wf rest := ⟨hp.2, fun y hy => hv y (by simp [hy])⟩
    simp only [Memory.write]
    split
    · next hlt =>
      split
      · next hu =>
        rw [hu]
        refine Memory.read_below fun y hy => ?_
        rcases List.mem_cons.mp hy with rfl | hy
        · exact hlt
        · exact Nat.lt_trans hlt (hp.1 y hy)
      · simp [Memory.read]
    · split
      · next hk =>
        subst hk
        split
        · next hu => rw [hu]; exact Memory.read_below fun y hy => hp.1 y hy
        · simp [Memory.read]
      · next hne => simp only [Memory.read, if_neg (Ne.symm hne)]; exact ih hrest

/-- The listed addresses after a write. -/
theorem Memory.mem_write {m : Memory} {a : Nat} {v : Byte} {x : Host.Cell} (h : x ∈ m.write a v) :
    x ∈ m ∨ (x = (a, v) ∧ v ≠ Memory.unlisted a) := by
  induction m with
  | nil => simp only [Memory.write] at h; split at h <;> simp_all
  | cons y rest ih =>
    obtain ⟨k, w⟩ := y
    simp only [Memory.write] at h
    split at h
    · split at h <;> simp_all
      tauto
    · split at h
      · split at h <;> simp_all
        tauto
      · rcases List.mem_cons.mp h with h | h
        · exact .inl (by simp [h])
        · rcases ih h with h | h
          · exact .inl (by simp [h])
          · exact .inr h

/-- A write keeps the canonical form. -/
theorem Memory.write_wf {m : Memory} (hm : m.wf) {a : Nat} (ha : a < 65536) (v : Byte) : (m.write a v).wf := by
  refine ⟨?_, fun x hx => ?_⟩
  · obtain ⟨hp, hv⟩ := hm
    induction m with
    | nil => simp only [Memory.write]; split <;> simp
    | cons y rest ih =>
      obtain ⟨k, w⟩ := y
      rw [List.pairwise_cons] at hp
      simp only [Memory.write]
      split
      · next hlt =>
        split
        · exact List.pairwise_cons.mpr hp
        · refine List.pairwise_cons.mpr ⟨fun z hz => ?_, List.pairwise_cons.mpr hp⟩
          rcases List.mem_cons.mp hz with rfl | hz
          · exact hlt
          · exact Nat.lt_trans hlt (hp.1 z hz)
      · split
        · next hk =>
          subst hk
          split
          · exact hp.2
          · exact List.pairwise_cons.mpr ⟨hp.1, hp.2⟩
        · refine List.pairwise_cons.mpr ⟨fun z hz => ?_, ih hp.2 fun x hx => hv x (by simp [hx])⟩
          rcases Memory.mem_write hz with hz | ⟨rfl, -⟩
          · exact hp.1 z hz
          · omega
  · rcases Memory.mem_write hx with hx | ⟨rfl, hv⟩
    · exact hm.2 x hx
    · exact ⟨ha, hv⟩

/-- Writing a list of cells of the address space keeps the canonical form. -/
theorem Memory.writeCells_wf {m : Memory} (hm : m.wf) {cells : List Host.Cell} (hc : ∀ x ∈ cells, x.1 < 65536) :
    (m.writeCells cells).wf := by
  induction cells generalizing m with
  | nil => exact hm
  | cons x rest ih =>
    exact ih (Memory.write_wf hm (hc x (by simp)) x.2) fun y hy => hc y (by simp [hy])

/-- Writing a list of cells leaves every address not in it as it was. -/
theorem Memory.read_writeCells_ne (m : Memory) (cells : List Host.Cell) (a : Nat) (h : ∀ p ∈ cells, p.1 ≠ a) :
    (m.writeCells cells).read a = m.read a := by
  induction cells generalizing m with
  | nil => rfl
  | cons x rest ih =>
    rw [show m.writeCells (x :: rest) = (m.write x.1 x.2).writeCells rest from rfl, ih _ fun p hp => h p (by simp [hp])]
    exact Memory.read_write_ne m x.2 (Ne.symm (h x (by simp)))

/-- A list of cells of the address space, no address twice, is read back from canonical memory. -/
theorem Memory.read_writeCells_mem {m : Memory} (hm : m.wf) (cells : List Host.Cell) (hc : ∀ x ∈ cells, x.1 < 65536)
    (hn : cells.Pairwise fun x y => x.1 ≠ y.1) : ∀ p ∈ cells, (m.writeCells cells).read p.1 = p.2 := by
  induction cells generalizing m with
  | nil => simp
  | cons x rest ih =>
    intro p hp
    have hn' := List.pairwise_cons.mp hn
    rcases List.mem_cons.mp hp with rfl | hp
    · rw [show m.writeCells (p :: rest) = (m.write p.1 p.2).writeCells rest from rfl,
        Memory.read_writeCells_ne _ _ _ fun q hq => Ne.symm (hn'.1 q hq), Memory.read_write_same hm]
    · exact ih (Memory.write_wf hm (hc x (by simp)) x.2) (fun y hy => hc y (by simp [hy])) hn'.2 p hp

/-- Canonical memories that read alike are equal. -/
theorem Memory.eq_of_read {m n : Memory} (hm : m.wf) (hn : n.wf) (h : ∀ a, m.read a = n.read a) : m = n := by
  induction m generalizing n with
  | nil =>
    cases n with
    | nil => rfl
    | cons y rest => exact absurd (by simpa [Memory.read] using (h y.1).symm) (hn.2 y (by simp)).2
  | cons x rest ih =>
    obtain ⟨k, v⟩ := x
    have hk := (List.pairwise_cons.mp hm.1).1
    have hm' : Memory.wf rest := ⟨(List.pairwise_cons.mp hm.1).2, fun y hy => hm.2 y (by simp [hy])⟩
    cases n with
    | nil => exact absurd (by simpa [Memory.read] using h k) (hm.2 (k, v) (by simp)).2
    | cons y rest' =>
      obtain ⟨k', v'⟩ := y
      have hk' := (List.pairwise_cons.mp hn.1).1
      have hn' : Memory.wf rest' := ⟨(List.pairwise_cons.mp hn.1).2, fun y hy => hn.2 y (by simp [hy])⟩
      rcases Nat.lt_trichotomy k k' with hlt | heq | hgt
      · have hb : Memory.read ((k', v') :: rest') k = Memory.unlisted k := by
          refine Memory.read_below fun z hz => ?_
          rcases List.mem_cons.mp hz with rfl | hz
          · exact hlt
          · exact Nat.lt_trans hlt (hk' z hz)
        have := h k
        rw [hb] at this
        exact absurd (by simpa [Memory.read] using this) (hm.2 (k, v) (by simp)).2
      · subst heq
        have hv : v = v' := by simpa [Memory.read] using h k
        subst hv
        congr 1
        refine ih hm' hn' fun a => ?_
        by_cases ha : k = a
        · subst ha
          rw [Memory.read_below fun z hz => hk z hz, Memory.read_below fun z hz => hk' z hz]
        · simpa [Memory.read, ha] using h a
      · have hb : Memory.read ((k, v) :: rest) k' = Memory.unlisted k' := by
          refine Memory.read_below fun z hz => ?_
          rcases List.mem_cons.mp hz with rfl | hz
          · exact hgt
          · exact Nat.lt_trans hgt (hk z hz)
        have := h k'
        rw [hb] at this
        exact absurd (by simpa [Memory.read] using this.symm) (hn.2 (k', v') (by simp)).2

/-- The reset table lists addresses of the space. -/
theorem resetTable_in_space : ∀ x ∈ resetTable, x.1 < 65536 := by decide

/-- The reset table lists no address twice. -/
theorem resetTable_pairwise : resetTable.Pairwise (fun x y => x.1 ≠ y.1) := by decide

/-- Two words are one address exactly if their numbers are. -/
theorem word_ne_toNat {x y : Word} (h : x ≠ y) : x.toNat ≠ y.toNat := fun e => h (BitVec.eq_of_toNat_eq e)

/-- A byte store leaves every other address as it was. -/
theorem State.readByte_writeByte_ne (s : State) {x y : Word} (v : Byte) (h : y ≠ x) :
    (s.writeByte x v).readByte y = s.readByte y :=
  Memory.read_write_ne s.mem v (word_ne_toNat h)

/-- A byte store is read back, in canonical memory. -/
theorem State.readByte_writeByte_same {s : State} (hs : s.mem.wf) (x : Word) (v : Byte) :
    (s.writeByte x v).readByte x = v :=
  Memory.read_write_same hs x.toNat v

/-- A byte store keeps the canonical form. -/
theorem State.writeByte_wf {s : State} (hs : s.mem.wf) (x : Word) (v : Byte) : (s.writeByte x v).mem.wf :=
  Memory.write_wf hs x.isLt v

/-- A word store keeps the canonical form. -/
theorem State.writeWord_wf {s : State} (hs : s.mem.wf) (x v : Word) : (s.writeWord x v).mem.wf :=
  State.writeByte_wf (State.writeByte_wf hs _ _) _ _

/-- Bytes stored in a row keep the canonical form. -/
theorem State.writeBytes_wf {s : State} (hs : s.mem.wf) (x : Word) (bs : List Byte) :
    (s.writeBytes x bs).mem.wf := by
  induction bs generalizing s x with
  | nil => exact hs
  | cons b rest ih => exact ih (State.writeByte_wf hs x b) (x + 1)

@[simp] theorem State.resetOp_mem (s : State) : s.resetOp.mem = s.mem.writeCells resetTable := by
  rw [State.resetOp]

/-- `reset()` keeps the canonical form. -/
theorem State.resetOp_wf {s : State} (hs : s.mem.wf) : s.resetOp.mem.wf := by
  rw [State.resetOp_mem]
  exact Memory.writeCells_wf hs resetTable_in_space

/-- Memory right after reset is canonical. -/
theorem State.reset_mem_wf : State.reset.mem.wf := by decide

end Sys2Proof.Machine
end

