-- ==== Sys2Proof/Laws/Ops.lean ====
section
/-! SUPPORT. What each shared operation does, said once: stack primitives, slots, pairs, fetch. -/

namespace Sys2Proof.Machine

/-- Push16 in one update (R147). -/
theorem State.push16_eq (s : State) (v : Word) :
    s.push16 v = { s with
      sp := s.sp - 2
      mem := (s.mem.write (s.sp - 1).toNat (hiByte v)).write (s.sp - 2).toNat (loByte v) } := by
  have h : s.sp - 1 - 1 = s.sp - 2 := by
    rw [BitVec.sub_sub]; rfl
  simp only [State.push16, State.setSP, State.writeByte, h]

/-- What Pop16 leaves (R148). -/
theorem State.dropWord_eq (s : State) : s.dropWord = { s with sp := s.sp + 2 } := by
  have h : s.sp + 1 + 1 = s.sp + 2 := by
    rw [BitVec.add_assoc]; rfl
  simp only [State.dropWord, State.setSP, h]

/-- Push16 keeps the canonical form. -/
theorem State.push16_wf {s : State} (hs : s.mem.wf) (v : Word) : (s.push16 v).mem.wf := by
  rw [State.push16_eq]
  exact Memory.write_wf (Memory.write_wf hs (s.sp - 1).isLt _) (s.sp - 2).isLt _

/-- A write of a register slot is a register write; of slot 6, a store at HL (R149). -/
theorem State.writeSlot_cases (s : State) (z : Slot) (v : Byte) :
    (∃ r, slotReg z = some r ∧ s.writeSlot z v = s.setReg r v) ∨
      (z = .mhl ∧ s.writeSlot z v = s.writeByte s.hl v) := by
  cases z <;> first | exact .inr ⟨rfl, rfl⟩ | exact .inl ⟨_, rfl, rfl⟩

/-- A slot write keeps the canonical form. -/
theorem State.writeSlot_wf {s : State} (hs : s.mem.wf) (z : Slot) (v : Byte) : (s.writeSlot z v).mem.wf := by
  rcases s.writeSlot_cases z v with ⟨r, -, h⟩ | ⟨-, h⟩ <;> rw [h]
  · simpa using hs
  · exact State.writeByte_wf hs _ _

@[simp] theorem State.writeSlot_flags (s : State) (z : Slot) (v : Byte) : (s.writeSlot z v).flags = s.flags := by
  cases z <;> rfl

@[simp] theorem State.writeSlot_pc (s : State) (z : Slot) (v : Byte) : (s.writeSlot z v).pc = s.pc := by
  cases z <;> rfl

@[simp] theorem State.writeSlot_sp (s : State) (z : Slot) (v : Byte) : (s.writeSlot z v).sp = s.sp := by
  cases z <;> rfl

@[simp] theorem State.writeSlot_running (s : State) (z : Slot) (v : Byte) :
    (s.writeSlot z v).running = s.running := by
  cases z <;> rfl

@[simp] theorem State.writeSlot_ime (s : State) (z : Slot) (v : Byte) : (s.writeSlot z v).ime = s.ime := by
  cases z <;> rfl

/-- The packed flags, unpacked, are the flags (R22). -/
@[simp] theorem Flags.unpack_pack (f : Flags) : Flags.unpack f.pack = f := by
  rcases f with ⟨_ | _, _ | _, _ | _, _ | _⟩ <;> decide

/-- A pair written and read back (R23). -/
theorem State.setPair_getPair (s : State) (p : Pair) (v : Word) : (s.setPair p v).getPair p = v := by
  cases p <;> simp [State.setPair, State.getPair, State.setBC, State.setDE, State.setHL, State.setSP,
    State.bc, State.de, State.hl]

/-- Fetch answers an instruction exactly if its bytes decode to one (R142). -/
theorem State.fetch_of_decode {s : State} {i : Instr} {rest : List Byte}
    (h : decode Config.jgameboy s.fetchBytes = .ok (i, rest)) : s.fetch = some i := by
  simp only [State.fetch, h]

/-- A running state whose fetch answers an instruction executes it (R141). -/
theorem step_of_fetch {s : State} {i : Instr} (hr : s.running = true) (h : s.fetch = some i) :
    step s = exec i s := by
  simp only [step, hr, h, if_true]

end Sys2Proof.Machine
end

