-- ==== Sys2Proof/Laws/Exec.lean ====
section
/-! SUPPORT. What each shared operation of the meanings leaves alone: one lemma per latch and for memory, so that a claim over all instructions is a case split and simp. Stores keep the canonical form of memory and change no byte but their own. -/

namespace Sys2Proof.Machine

/-- Fetch reads what it decodes: with an opcode and two more bytes the decoder needs no other. -/
theorem State.fetch_eq (s : State) : s.fetch =
    match decode Config.jgameboy [s.readByte s.pc, s.readByte (s.pc + 1), s.readByte (s.pc + 2)] with
    | .ok (i, _) => some i
    | .error _ => none := rfl

/-- A step that answers a next state starts with `running` set (R140). -/
theorem running_of_step {s t : State} (h : step s = .next t) : s.running = true := by
  cases hr : s.running
  · simp [step, hr] at h
  · rfl

/-- Every instruction completes in every state: no meaning faults or refuses (R350). -/
theorem exec_total (i : Instr) (s : State) : ∃ t, exec i s = .next t := by
  cases i <;> exact ⟨_, rfl⟩

variable (s : State)

@[simp] theorem State.setPair_running (p : Pair) (v : Word) : (s.setPair p v).running = s.running := by
  cases p <;> rfl
@[simp] theorem State.setPair_ime (p : Pair) (v : Word) : (s.setPair p v).ime = s.ime := by
  cases p <;> rfl
@[simp] theorem State.setPair_mem (p : Pair) (v : Word) : (s.setPair p v).mem = s.mem := by
  cases p <;> rfl

@[simp] theorem State.setStackPair_running (p : StackPair) (v : Word) : (s.setStackPair p v).running = s.running := by
  cases p <;> rfl
@[simp] theorem State.setStackPair_ime (p : StackPair) (v : Word) : (s.setStackPair p v).ime = s.ime := by
  cases p <;> rfl
@[simp] theorem State.setStackPair_mem (p : StackPair) (v : Word) : (s.setStackPair p v).mem = s.mem := by
  cases p <;> rfl

@[simp] theorem State.dropWord_running : (s.dropWord).running = s.running := by
  rfl
@[simp] theorem State.dropWord_ime : (s.dropWord).ime = s.ime := by
  rfl
@[simp] theorem State.dropWord_mem : (s.dropWord).mem = s.mem := by
  rfl

@[simp] theorem State.push16_running (v : Word) : (s.push16 v).running = s.running := by
  rfl
@[simp] theorem State.push16_ime (v : Word) : (s.push16 v).ime = s.ime := by
  rfl

@[simp] theorem State.writeWord_running (x v : Word) : (s.writeWord x v).running = s.running := by
  rfl
@[simp] theorem State.writeWord_ime (x v : Word) : (s.writeWord x v).ime = s.ime := by
  rfl

@[simp] theorem State.loadSlot_running (dst src : Slot) : (s.loadSlot dst src).running = s.running := by
  simp [State.loadSlot]
@[simp] theorem State.loadSlot_ime (dst src : Slot) : (s.loadSlot dst src).ime = s.ime := by
  simp [State.loadSlot]

@[simp] theorem State.loadImm_running (dst : Slot) (n : Byte) : (s.loadImm dst n).running = s.running := by
  simp [State.loadImm]
@[simp] theorem State.loadImm_ime (dst : Slot) (n : Byte) : (s.loadImm dst n).ime = s.ime := by
  simp [State.loadImm]

@[simp] theorem State.storeA_running (x n : Word) : (s.storeA x n).running = s.running := by
  rfl
@[simp] theorem State.storeA_ime (x n : Word) : (s.storeA x n).ime = s.ime := by
  rfl

@[simp] theorem State.loadA_running (x n : Word) : (s.loadA x n).running = s.running := by
  rfl
@[simp] theorem State.loadA_ime (x n : Word) : (s.loadA x n).ime = s.ime := by
  rfl
@[simp] theorem State.loadA_mem (x n : Word) : (s.loadA x n).mem = s.mem := by
  rfl

@[simp] theorem State.loadHLSP_running (n : Byte) : (s.loadHLSP n).running = s.running := by
  rfl
@[simp] theorem State.loadHLSP_ime (n : Byte) : (s.loadHLSP n).ime = s.ime := by
  rfl
@[simp] theorem State.loadHLSP_mem (n : Byte) : (s.loadHLSP n).mem = s.mem := by
  rfl

@[simp] theorem State.pushPair_running (p : StackPair) : (s.pushPair p).running = s.running := by
  simp [State.pushPair]
@[simp] theorem State.pushPair_ime (p : StackPair) : (s.pushPair p).ime = s.ime := by
  simp [State.pushPair]

@[simp] theorem State.popPair_running (p : StackPair) : (s.popPair p).running = s.running := by
  simp [State.popPair]
@[simp] theorem State.popPair_ime (p : StackPair) : (s.popPair p).ime = s.ime := by
  simp [State.popPair]
@[simp] theorem State.popPair_mem (p : StackPair) : (s.popPair p).mem = s.mem := by
  simp [State.popPair]

@[simp] theorem State.aluOn_running (c : Config) (op : AluOp) (b : Byte) (n : Word) : (s.aluOn c op b n).running = s.running := by
  rfl
@[simp] theorem State.aluOn_ime (c : Config) (op : AluOp) (b : Byte) (n : Word) : (s.aluOn c op b n).ime = s.ime := by
  rfl
@[simp] theorem State.aluOn_mem (c : Config) (op : AluOp) (b : Byte) (n : Word) : (s.aluOn c op b n).mem = s.mem := by
  rfl

@[simp] theorem State.aluSlot_running (c : Config) (op : AluOp) (z : Slot) : (s.aluSlot c op z).running = s.running := by
  rfl
@[simp] theorem State.aluSlot_ime (c : Config) (op : AluOp) (z : Slot) : (s.aluSlot c op z).ime = s.ime := by
  rfl
@[simp] theorem State.aluSlot_mem (c : Config) (op : AluOp) (z : Slot) : (s.aluSlot c op z).mem = s.mem := by
  rfl

@[simp] theorem State.aluImm_running (c : Config) (op : AluOp) (n : Byte) : (s.aluImm c op n).running = s.running := by
  rfl
@[simp] theorem State.aluImm_ime (c : Config) (op : AluOp) (n : Byte) : (s.aluImm c op n).ime = s.ime := by
  rfl
@[simp] theorem State.aluImm_mem (c : Config) (op : AluOp) (n : Byte) : (s.aluImm c op n).mem = s.mem := by
  rfl

@[simp] theorem State.updateSlot_running (z : Slot) (r : Byte × Flags) : (s.updateSlot z r).running = s.running := by
  simp [State.updateSlot]
@[simp] theorem State.updateSlot_ime (z : Slot) (r : Byte × Flags) : (s.updateSlot z r).ime = s.ime := by
  simp [State.updateSlot]

@[simp] theorem State.incSlot_running (z : Slot) : (s.incSlot z).running = s.running := by
  simp [State.incSlot]
@[simp] theorem State.incSlot_ime (z : Slot) : (s.incSlot z).ime = s.ime := by
  simp [State.incSlot]

@[simp] theorem State.decSlot_running (z : Slot) : (s.decSlot z).running = s.running := by
  simp [State.decSlot]
@[simp] theorem State.decSlot_ime (z : Slot) : (s.decSlot z).ime = s.ime := by
  simp [State.decSlot]

@[simp] theorem State.rotA_running (c : Config) (op : RotOp) : (s.rotA c op).running = s.running := by
  rfl
@[simp] theorem State.rotA_ime (c : Config) (op : RotOp) : (s.rotA c op).ime = s.ime := by
  rfl
@[simp] theorem State.rotA_mem (c : Config) (op : RotOp) : (s.rotA c op).mem = s.mem := by
  rfl

@[simp] theorem State.addHL_running (p : Pair) : (s.addHL p).running = s.running := by
  rfl
@[simp] theorem State.addHL_ime (p : Pair) : (s.addHL p).ime = s.ime := by
  rfl
@[simp] theorem State.addHL_mem (p : Pair) : (s.addHL p).mem = s.mem := by
  rfl

@[simp] theorem State.addSP_running (n : Byte) : (s.addSP n).running = s.running := by
  rfl
@[simp] theorem State.addSP_ime (n : Byte) : (s.addSP n).ime = s.ime := by
  rfl
@[simp] theorem State.addSP_mem (n : Byte) : (s.addSP n).mem = s.mem := by
  rfl

@[simp] theorem State.jumpIf_running (cc : Cond) (t n : Word) : (s.jumpIf cc t n).running = s.running := by
  simp only [State.jumpIf]; split <;> rfl
@[simp] theorem State.jumpIf_ime (cc : Cond) (t n : Word) : (s.jumpIf cc t n).ime = s.ime := by
  simp only [State.jumpIf]; split <;> rfl
@[simp] theorem State.jumpIf_mem (cc : Cond) (t n : Word) : (s.jumpIf cc t n).mem = s.mem := by
  simp only [State.jumpIf]; split <;> rfl

@[simp] theorem State.call_running (t n : Word) : (s.call t n).running = s.running := by
  simp [State.call]
@[simp] theorem State.call_ime (t n : Word) : (s.call t n).ime = s.ime := by
  simp [State.call]

@[simp] theorem State.callIf_running (cc : Cond) (t : Word) : (s.callIf cc t).running = s.running := by
  simp only [State.callIf]; split <;> rfl
@[simp] theorem State.callIf_ime (cc : Cond) (t : Word) : (s.callIf cc t).ime = s.ime := by
  simp only [State.callIf]; split <;> rfl

@[simp] theorem State.ret_running : (s.ret).running = s.running := by
  rfl
@[simp] theorem State.ret_ime : (s.ret).ime = s.ime := by
  rfl
@[simp] theorem State.ret_mem : (s.ret).mem = s.mem := by
  rfl

@[simp] theorem State.retIf_running (c : Config) (cc : Cond) : (s.retIf c cc).running = s.running := by
  simp only [State.retIf]; repeat' split
  all_goals rfl
@[simp] theorem State.retIf_mem (c : Config) (cc : Cond) : (s.retIf c cc).mem = s.mem := by
  simp only [State.retIf]; repeat' split
  all_goals rfl

@[simp] theorem State.restart_running (t : Word) : (s.restart t).running = s.running := by
  rw [State.restart, State.setIme_running, State.call_running]

@[simp] theorem State.illegal_running : (s.illegal).running = s.running := by
  rfl
@[simp] theorem State.illegal_ime : (s.illegal).ime = s.ime := by
  rfl
@[simp] theorem State.illegal_mem : (s.illegal).mem = s.mem := by
  rfl

@[simp] theorem State.unhandled_running : (s.unhandled).running = s.running := by
  rfl
@[simp] theorem State.unhandled_ime : (s.unhandled).ime = s.ime := by
  rfl
@[simp] theorem State.unhandled_mem : (s.unhandled).mem = s.mem := by
  rfl

@[simp] theorem State.extRot_running (c : Config) (op : RotOp) (z : Slot) : (s.extRot c op z).running = s.running := by
  simp [State.extRot, State.updateSlot]
@[simp] theorem State.extRot_ime (c : Config) (op : RotOp) (z : Slot) : (s.extRot c op z).ime = s.ime := by
  simp [State.extRot, State.updateSlot]
@[simp] theorem State.extRot_pc (c : Config) (op : RotOp) (z : Slot) : (s.extRot c op z).pc = s.pc := by
  simp [State.extRot, State.updateSlot]

@[simp] theorem State.extBit_running (b : Nat) (z : Slot) : (s.extBit b z).running = s.running := by
  rfl
@[simp] theorem State.extBit_ime (b : Nat) (z : Slot) : (s.extBit b z).ime = s.ime := by
  rfl
@[simp] theorem State.extBit_mem (b : Nat) (z : Slot) : (s.extBit b z).mem = s.mem := by
  rfl
@[simp] theorem State.extBit_pc (b : Nat) (z : Slot) : (s.extBit b z).pc = s.pc := by
  rfl

@[simp] theorem State.extRes_running (b : Nat) (z : Slot) : (s.extRes b z).running = s.running := by
  simp [State.extRes]
@[simp] theorem State.extRes_ime (b : Nat) (z : Slot) : (s.extRes b z).ime = s.ime := by
  simp [State.extRes]
@[simp] theorem State.extRes_pc (b : Nat) (z : Slot) : (s.extRes b z).pc = s.pc := by
  simp [State.extRes]

@[simp] theorem State.extSet_running (b : Nat) (z : Slot) : (s.extSet b z).running = s.running := by
  simp [State.extSet]
@[simp] theorem State.extSet_ime (b : Nat) (z : Slot) : (s.extSet b z).ime = s.ime := by
  simp [State.extSet]
@[simp] theorem State.extSet_pc (b : Nat) (z : Slot) : (s.extSet b z).pc = s.pc := by
  simp [State.extSet]

@[simp] theorem State.execExt_running (c : Config) (op2 : Byte) : (s.execExt c op2).running = s.running := by
  simp only [State.execExt]; repeat' split
  all_goals simp
@[simp] theorem State.execExt_ime (c : Config) (op2 : Byte) : (s.execExt c op2).ime = s.ime := by
  simp only [State.execExt]; repeat' split
  all_goals simp
@[simp] theorem State.execExt_pc (c : Config) (op2 : Byte) : (s.execExt c op2).pc = s.pc := by
  simp only [State.execExt]; repeat' split
  all_goals simp

@[simp] theorem State.prefixed_running (c : Config) : (s.prefixed c).running = s.running := by
  simp [State.prefixed]
@[simp] theorem State.prefixed_ime (c : Config) : (s.prefixed c).ime = s.ime := by
  simp [State.prefixed]

/-- The addresses of a slot write: HL for slot 6, none for a register slot (R149). -/
theorem State.writeSlot_readByte (z : Slot) (v : Byte) (x : Word) (h : z = .mhl → x ≠ s.hl) :
    (s.writeSlot z v).readByte x = s.readByte x := by
  rcases s.writeSlot_cases z v with ⟨r, -, e⟩ | ⟨hz, e⟩ <;> rw [e]
  · simp
  · exact s.readByte_writeByte_ne v (h hz)

/-- A push changes no byte but the two below `sp` (R147). -/
theorem State.push16_readByte (v x : Word) (h1 : x ≠ s.sp - 1) (h2 : x ≠ s.sp - 2) :
    (s.push16 v).readByte x = s.readByte x := by
  rw [State.push16_eq]
  show Memory.read _ _ = _
  rw [Memory.read_write_ne _ _ (word_ne_toNat h2), Memory.read_write_ne _ _ (word_ne_toNat h1)]
  rfl


theorem State.loadSlot_readByte (dst src : Slot) (x : Word) (h : dst = .mhl → x ≠ s.hl) :
    (s.loadSlot dst src).readByte x = s.readByte x := State.writeSlot_readByte s dst _ x h
theorem State.loadImm_readByte (dst : Slot) (n : Byte) (x : Word) (h : dst = .mhl → x ≠ s.hl) :
    (s.loadImm dst n).readByte x = s.readByte x := State.writeSlot_readByte s dst _ x h
theorem State.op76_readByte (c : Config) (x : Word) (h : x ≠ s.hl) : (s.op76 c).readByte x = s.readByte x := by
  rw [State.op76]
  split
  · exact State.loadSlot_readByte s _ _ x fun _ => h
  · rfl
theorem State.storeA_readByte (a n x : Word) (h : x ≠ a) : (s.storeA a n).readByte x = s.readByte x :=
  s.readByte_writeByte_ne _ h
theorem State.writeWord_readByte (a v x : Word) (h1 : x ≠ a) (h2 : x ≠ a + 1) :
    (s.writeWord a v).readByte x = s.readByte x := by
  rw [State.writeWord, State.readByte_writeByte_ne _ _ h2, State.readByte_writeByte_ne _ _ h1]
theorem State.pushPair_readByte (p : StackPair) (x : Word) (h1 : x ≠ s.sp - 1) (h2 : x ≠ s.sp - 2) :
    (s.pushPair p).readByte x = s.readByte x := State.push16_readByte s _ x h1 h2
theorem State.call_readByte (t n x : Word) (h1 : x ≠ s.sp - 1) (h2 : x ≠ s.sp - 2) :
    (s.call t n).readByte x = s.readByte x := State.push16_readByte s _ x h1 h2
theorem State.restart_readByte (t x : Word) (h1 : x ≠ s.sp - 1) (h2 : x ≠ s.sp - 2) :
    (s.restart t).readByte x = s.readByte x := State.push16_readByte s _ x h1 h2
theorem State.callIf_readByte (cc : Cond) (t x : Word) (h : s.cond cc = true → x ≠ s.sp - 1 ∧ x ≠ s.sp - 2) :
    (s.callIf cc t).readByte x = s.readByte x := by
  rw [State.callIf]
  split
  · next hc => exact State.call_readByte s _ _ x (h hc).1 (h hc).2
  · rfl
theorem State.incSlot_readByte (z : Slot) (x : Word) (h : z = .mhl → x ≠ s.hl) :
    (s.incSlot z).readByte x = s.readByte x := State.writeSlot_readByte s z _ x h
theorem State.decSlot_readByte (z : Slot) (x : Word) (h : z = .mhl → x ≠ s.hl) :
    (s.decSlot z).readByte x = s.readByte x := State.writeSlot_readByte s z _ x h
theorem State.extRot_readByte (c : Config) (op : RotOp) (z : Slot) (x : Word) (h : z = .mhl → x ≠ s.hl) :
    (s.extRot c op z).readByte x = s.readByte x := State.writeSlot_readByte s z _ x h
theorem State.extRes_readByte (b : Nat) (z : Slot) (x : Word) (h : z = .mhl → x ≠ s.hl) :
    (s.extRes b z).readByte x = s.readByte x := State.writeSlot_readByte s z _ x h
theorem State.extSet_readByte (b : Nat) (z : Slot) (x : Word) (h : z = .mhl → x ≠ s.hl) :
    (s.extSet b z).readByte x = s.readByte x := State.writeSlot_readByte s z _ x h

/-- ExecExt changes no byte but the one at HL, and that one only for slot 6 and a row that writes it (R320, R329). -/
theorem State.execExt_readByte (c : Config) (op2 : Byte) (x : Word)
    (h : fieldZ op2 = 6 → fieldX op2 ≠ 1 → x ≠ s.hl) : (s.execExt c op2).readByte x = s.readByte x := by
  have hz : Slot.ofCode (fieldZ op2) = .mhl → fieldZ op2 = 6 := by
    generalize fieldZ op2 = z
    revert z
    decide
  simp only [State.execExt]
  repeat' split
  · rfl
  · next h0 => exact State.writeSlot_readByte s _ _ x fun e => h (hz e) (by rw [h0]; decide)
  · rfl
  · next h0 => exact State.writeSlot_readByte s _ _ x fun e => h (hz e) (by rw [h0]; decide)
  · next h0 _ => exact State.writeSlot_readByte s _ _ x fun e => h (hz e) h0

variable {s}

/-- A slot write with flags keeps the canonical form. -/
theorem State.updateSlot_wf (hs : s.mem.wf) (z : Slot) (r : Byte × Flags) :
    (s.updateSlot z r).mem.wf := by
  rw [State.updateSlot, State.setFlags_mem]; exact State.writeSlot_wf hs z r.1

theorem State.loadSlot_wf (hs : s.mem.wf) (dst src : Slot) : (s.loadSlot dst src).mem.wf := by
  rw [State.loadSlot, State.advance_mem]; exact State.writeSlot_wf hs _ _
theorem State.loadImm_wf (hs : s.mem.wf) (dst : Slot) (n : Byte) : (s.loadImm dst n).mem.wf := by
  rw [State.loadImm, State.advance_mem]; exact State.writeSlot_wf hs _ _
theorem State.storeA_wf (hs : s.mem.wf) (x n : Word) : (s.storeA x n).mem.wf := by
  rw [State.storeA, State.advance_mem]; exact State.writeByte_wf hs _ _
theorem State.pushPair_wf (hs : s.mem.wf) (p : StackPair) : (s.pushPair p).mem.wf := by
  rw [State.pushPair, State.advance_mem]; exact State.push16_wf hs _
theorem State.call_wf (hs : s.mem.wf) (t n : Word) : (s.call t n).mem.wf := by
  rw [State.call, State.jump_mem]; exact State.push16_wf hs _
theorem State.restart_wf (hs : s.mem.wf) (t : Word) : (s.restart t).mem.wf := by
  rw [State.restart, State.setIme_mem]; exact State.call_wf hs _ _
theorem State.callIf_wf (hs : s.mem.wf) (cc : Cond) (t : Word) : (s.callIf cc t).mem.wf := by
  rw [State.callIf]
  split
  · exact State.call_wf hs _ _
  · exact hs
theorem State.incSlot_wf (hs : s.mem.wf) (z : Slot) : (s.incSlot z).mem.wf := by
  rw [State.incSlot, State.advance_mem]; exact State.updateSlot_wf hs _ _
theorem State.decSlot_wf (hs : s.mem.wf) (z : Slot) : (s.decSlot z).mem.wf := by
  rw [State.decSlot, State.advance_mem]; exact State.updateSlot_wf hs _ _
theorem State.extRot_wf (hs : s.mem.wf) (c : Config) (op : RotOp) (z : Slot) : (s.extRot c op z).mem.wf :=
  State.updateSlot_wf hs _ _
theorem State.extRes_wf (hs : s.mem.wf) (b : Nat) (z : Slot) : (s.extRes b z).mem.wf :=
  State.writeSlot_wf hs _ _
theorem State.extSet_wf (hs : s.mem.wf) (b : Nat) (z : Slot) : (s.extSet b z).mem.wf :=
  State.writeSlot_wf hs _ _

/-- ExecExt keeps the canonical form. -/
theorem State.execExt_wf (hs : s.mem.wf) (c : Config) (op2 : Byte) : (s.execExt c op2).mem.wf := by
  simp only [State.execExt]
  repeat' split
  · exact hs
  · exact State.extRot_wf hs _ _ _
  · exact hs
  · exact State.extRes_wf hs _ _
  · exact State.extSet_wf hs _ _
theorem State.prefixed_wf (hs : s.mem.wf) (c : Config) : (s.prefixed c).mem.wf := by
  rw [State.prefixed, State.advance_mem]; exact State.execExt_wf hs _ _
theorem State.op76_wf (hs : s.mem.wf) (c : Config) : (s.op76 c).mem.wf := by
  rw [State.op76]
  split
  · exact State.loadSlot_wf hs _ _
  · exact hs
@[simp] theorem State.op10_mem (s : State) (c : Config) : (s.op10 c).mem = s.mem := by
  rw [State.op10]
  split <;> rfl

end Sys2Proof.Machine
end

