-- ==== Sys2Proof/Tests/Slice0.lean ====
section
/-! SUPPORT. Small checks of one step, one helper or one word each: words written out from the encoding of 30_encoding.md, vectors of 95_test_vectors.md (the part is named beside each group), ill-formed terms refused, and a witness for the hypotheses of each statement. -/

namespace Sys2Proof.Tests

open Sys2Proof.Machine

/-- A view of the next state, if there is one. -/
def view {α : Type} (f : State → α) : Result → Option α
  | .next t => some (f t)
  | _ => none

/-- The flags in the order of the vectors: Z C H N, the order of the flags byte from bit 7 down. -/
def zchn (z c h n : Bool) : Flags := { z := z, c := c, h := h, n := n }

/-- Bytes placed at 0x0100, where the vectors place them. -/
def at0100 (bs : List Byte) (s : State) : State := s.writeBytes 0x0100 bs

/-! ## Well-formedness: an instruction in the table that does not hold it is refused -/

theorem test_wf_extended_row_in_primary_table : ¬ WellFormed .primary .set_1_e := by decide
theorem test_wf_primary_row_in_extended_table : ¬ WellFormed .extended (.ld_a_d8 0x5A) := by decide
theorem test_wf_prefix_is_no_extended_row : ¬ WellFormed .extended .prefix_cb := by decide
theorem test_wf_primary : WellFormed .primary (.jp_a16 0x0150) := by decide
theorem test_wf_extended : WellFormed .extended .bit_7_h := by decide

/-! ## Decoding: words written out field by field (x, y, z of R81; the map of R90, R91) -/

theorem test_decode_nop : decode Config.jgameboy [0b00_000_000] = .ok (.nop, []) := by rfl
theorem test_decode_stop : decode Config.jgameboy [0b00_010_000] = .ok (.stop, []) := by rfl
theorem test_decode_jr : decode Config.jgameboy [0b00_011_000, 0xFE] = .ok (.jr_e8 0xFE, []) := by rfl
theorem test_decode_jr_nc : decode Config.jgameboy [0b00_110_000, 0xFB] = .ok (.jr_nc_e8 0xFB, []) := by rfl
theorem test_decode_ld_hl_d16 : decode Config.jgameboy [0b00_100_001, 0x20, 0x01] = .ok (.ld_hl_d16 0x0120, []) := by rfl
theorem test_decode_add_hl_sp : decode Config.jgameboy [0b00_111_001] = .ok (.add_hl_sp, []) := by rfl
theorem test_decode_ld_mde_a : decode Config.jgameboy [0b00_010_010] = .ok (.ld_mde_a, []) := by rfl
theorem test_decode_ld_a_mhld : decode Config.jgameboy [0b00_111_010] = .ok (.ld_a_mhld, []) := by rfl
theorem test_decode_ld_mhli_a : decode Config.jgameboy [0b00_100_010] = .ok (.ld_mhli_a, []) := by rfl
theorem test_decode_inc_de : decode Config.jgameboy [0b00_010_011] = .ok (.inc_de, []) := by rfl
theorem test_decode_dec_sp : decode Config.jgameboy [0b00_111_011] = .ok (.dec_sp, []) := by rfl
theorem test_decode_inc_mhl : decode Config.jgameboy [0b00_110_100] = .ok (.inc_mhl, []) := by rfl
theorem test_decode_dec_l : decode Config.jgameboy [0b00_101_101] = .ok (.dec_l, []) := by rfl
theorem test_decode_ld_mhl_d8 : decode Config.jgameboy [0b00_110_110, 0xAB] = .ok (.ld_mhl_d8 0xAB, []) := by rfl
theorem test_decode_rra : decode Config.jgameboy [0b00_011_111] = .ok (.rra, []) := by rfl
theorem test_decode_daa : decode Config.jgameboy [0b00_100_111] = .ok (.daa, []) := by rfl
theorem test_decode_ccf : decode Config.jgameboy [0b00_111_111] = .ok (.ccf, []) := by rfl
theorem test_decode_ld_ma16_sp : decode Config.jgameboy [0b00_001_000, 0x34, 0x12] = .ok (.ld_ma16_sp 0x1234, []) := by rfl
theorem test_decode_ld_h_l : decode Config.jgameboy [0b01_100_101] = .ok (.ld_h_l, []) := by rfl
theorem test_decode_ld_l_mhl : decode Config.jgameboy [0b01_101_110] = .ok (.ld_l_mhl, []) := by rfl
theorem test_decode_ld_mhl_a : decode Config.jgameboy [0b01_110_111] = .ok (.ld_mhl_a, []) := by rfl
theorem test_decode_ld_mhl_mhl : decode Config.jgameboy [0b01_110_110] = .ok (.ld_mhl_mhl, []) := by rfl
theorem test_decode_sbc_a_d : decode Config.jgameboy [0b10_011_010] = .ok (.sbc_a_d, []) := by rfl
theorem test_decode_xor_mhl : decode Config.jgameboy [0b10_101_110] = .ok (.xor_mhl, []) := by rfl
theorem test_decode_or_a : decode Config.jgameboy [0b10_110_111] = .ok (.or_a, []) := by rfl
theorem test_decode_cp_b : decode Config.jgameboy [0b10_111_000] = .ok (.cp_b, []) := by rfl
theorem test_decode_ret_nc : decode Config.jgameboy [0b11_010_000] = .ok (.ret_nc, []) := by rfl
theorem test_decode_ldh_ma8_a : decode Config.jgameboy [0b11_100_000, 0x80] = .ok (.ldh_ma8_a 0x80, []) := by rfl
theorem test_decode_ldh_a_ma8 : decode Config.jgameboy [0b11_110_000, 0x40] = .ok (.ldh_a_ma8 0x40, []) := by rfl
theorem test_decode_add_sp : decode Config.jgameboy [0b11_101_000, 0x02] = .ok (.add_sp_e8 0x02, []) := by rfl
theorem test_decode_ld_hl_sp : decode Config.jgameboy [0b11_111_000, 0xFF] = .ok (.ld_hl_sp_e8 0xFF, []) := by rfl
theorem test_decode_pop_af : decode Config.jgameboy [0b11_110_001] = .ok (.pop_af, []) := by rfl
theorem test_decode_ret : decode Config.jgameboy [0b11_001_001] = .ok (.ret, []) := by rfl
theorem test_decode_reti : decode Config.jgameboy [0b11_011_001] = .ok (.reti, []) := by rfl
theorem test_decode_jp_hl : decode Config.jgameboy [0b11_101_001] = .ok (.jp_hl, []) := by rfl
theorem test_decode_ld_sp_hl : decode Config.jgameboy [0b11_111_001] = .ok (.ld_sp_hl, []) := by rfl
theorem test_decode_jp_c : decode Config.jgameboy [0b11_011_010, 0x00, 0x20] = .ok (.jp_c_a16 0x2000, []) := by rfl
theorem test_decode_ld_mc_a : decode Config.jgameboy [0b11_100_010] = .ok (.ld_mc_a, []) := by rfl
theorem test_decode_ld_a_ma16 : decode Config.jgameboy [0b11_111_010, 0x12, 0xFF] = .ok (.ld_a_ma16 0xFF12, []) := by rfl
theorem test_decode_jp : decode Config.jgameboy [0b11_000_011, 0x50, 0x01] = .ok (.jp_a16 0x0150, []) := by rfl
theorem test_decode_di : decode Config.jgameboy [0b11_110_011] = .ok (.di, []) := by rfl
theorem test_decode_ei : decode Config.jgameboy [0b11_111_011] = .ok (.ei, []) := by rfl
theorem test_decode_call_z : decode Config.jgameboy [0b11_001_100, 0x34, 0x12] = .ok (.call_z_a16 0x1234, []) := by rfl
theorem test_decode_push_de : decode Config.jgameboy [0b11_010_101] = .ok (.push_de, []) := by rfl
theorem test_decode_call : decode Config.jgameboy [0b11_001_101, 0x50, 0x01] = .ok (.call_a16 0x0150, []) := by rfl
theorem test_decode_xor_d8 : decode Config.jgameboy [0b11_101_110, 0x0F] = .ok (.xor_d8 0x0F, []) := by rfl
theorem test_decode_rst_28h : decode Config.jgameboy [0b11_101_111] = .ok (.rst_28h, []) := by rfl
theorem test_decode_illegal_dd : decode Config.jgameboy [0b11_011_101] = .ok (.illegal_dd, []) := by rfl
theorem test_decode_ext_rlc_b : decodeExt Config.jgameboy [0b00_000_000] = .ok (.rlc_b, []) := by rfl
theorem test_decode_ext_rr_e : decodeExt Config.jgameboy [0b00_011_011] = .ok (.rr_e, []) := by rfl
theorem test_decode_ext_sra_l : decodeExt Config.jgameboy [0b00_101_101] = .ok (.sra_l, []) := by rfl
theorem test_decode_ext_swap_mhl : decodeExt Config.jgameboy [0b00_110_110] = .ok (.swap_mhl, []) := by rfl
theorem test_decode_ext_srl_a : decodeExt Config.jgameboy [0b00_111_111] = .ok (.srl_a, []) := by rfl
theorem test_decode_ext_bit_0_mhl : decodeExt Config.jgameboy [0b01_000_110] = .ok (.bit_0_mhl, []) := by rfl
theorem test_decode_ext_bit_7_h : decodeExt Config.jgameboy [0b01_111_100] = .ok (.bit_7_h, []) := by rfl
theorem test_decode_ext_res_7_a : decodeExt Config.jgameboy [0b10_111_111] = .ok (.res_7_a, []) := by rfl
theorem test_decode_ext_set_1_e : decodeExt Config.jgameboy [0b11_001_011] = .ok (.set_1_e, []) := by rfl

/-- The prefix byte decodes alone: the byte after it is left for the next fetch (R332). -/
theorem test_decode_prefix : decode Config.jgameboy [0b11_001_011, 0x7C] = .ok (.prefix_cb, [0x7C]) := by rfl

/-- Under another parameter setting a prefix value is taken before the illegal set, and a value left out of
RECOGNISED_PRIMARY is unhandled (R89, R93). -/
theorem test_decode_other_prefix :
    decode { Config.jgameboy with prefixOp := 0xD3 } [0xD3] = .ok (.prefix_cb, []) := by rfl
theorem test_decode_unrecognised :
    decode { Config.jgameboy with unhandledPrimary := [0x04] } [0x04] = .error (.unhandled 0x04) := by rfl
theorem test_decode_truncated : decode Config.jgameboy [0x3E] = .error .truncated := by rfl

/-- The table word of LD (a16),SP as the table gives it, operands zero, and of LD B,A. -/
theorem test_table_word_ld_b_a : decodeTableWord 8 0x47 = some .ld_b_a := by rfl
theorem test_table_word_short : decodeTableWord 8 0x08 = some (.ld_ma16_sp 0) := by rfl
theorem test_table_word_long : decodeTableWord 24 0x0150C3 = some (.jp_a16 0x0150) := by rfl

/-- A placed word is what the next step runs. -/
theorem test_with_fetch_word : view (fun t => (t.a, t.pc)) (step (State.reset.withFetchWord 16 0x5A3E)) =
    some (0x5A, 0x0102) := by decide

/-! ## Reset: 95_test_vectors.md V6 and 70_reset_and_hazards.md -/

theorem test_reset_pc : State.reset.pc = 0x0100 := by decide
theorem test_reset_ff40 : State.reset.readByte 0xFF40 = 0x91 := by decide
theorem test_reset_empty_cell : State.reset.readByte 0x0100 = 0x00 := by decide
/-- State.reset is construction with the empty image (log entry 1). -/
theorem test_reset_is_construction : State.construct [] = State.reset := by decide
theorem test_construct_past_image : (State.construct [0x3C, 0xD9]).readByte 0x0002 = 0x00 := by decide
theorem test_construct_table_wins : (State.construct (List.replicate 3 0xAA)).readByte 0xFF40 = 0x91 := by decide
theorem test_construct_reads_image : (State.construct [0x3C, 0xD9]).readByte 0x0001 = 0xD9 := by decide

/-! ## Helpers: 95_test_vectors.md parts 1, 2 and 5 -/

theorem test_add_3a_c6 : Alu.add 0x3A 0xC6 = (0x00, zchn false true false false) := by decide
theorem test_add_00_08 : Alu.add 0x00 0x08 = (0x08, zchn false false true false) := by decide
theorem test_add_08_00 : Alu.add 0x08 0x00 = (0x08, zchn false false false false) := by decide
theorem test_add_ff_ff : Alu.add 0xFF 0xFF = (0xFE, zchn false true true false) := by decide
theorem test_sub_10_01 : Alu.sub 0x10 0x01 = (0x0F, zchn false false false true) := by decide
theorem test_sub_07_08 : Alu.sub 0x07 0x08 = (0xFF, zchn false true true true) := by decide
theorem test_sub_3c_3c : Alu.sub 0x3C 0x3C = (0x00, zchn true false false true) := by decide
theorem test_adc_intoA_00_07 : Alu.adc .intoA true 0x00 0x07 = (0x08, zchn false false false false) := by decide
theorem test_adc_intoB_00_07 : Alu.adc .intoB true 0x00 0x07 = (0x08, zchn false false true false) := by decide
theorem test_adc_intoA_ff_00 : Alu.adc .intoA true 0xFF 0x00 = (0x00, zchn false true false false) := by decide
theorem test_sbc_intoA_00_ff : Alu.sbc .intoA true 0x00 0xFF = (0x00, zchn false true false true) := by decide
theorem test_sbc_intoA_08_08 : Alu.sbc .intoA true 0x08 0x08 = (0xFF, zchn false true true true) := by decide
theorem test_sbc_intoB_08_08 : Alu.sbc .intoB true 0x08 0x08 = (0xFF, zchn false true false true) := by decide
theorem test_sbc_intoB_00_07 : Alu.sbc .intoB true 0x00 0x07 = (0xF8, zchn false true true true) := by decide
theorem test_add16_0fff_0001 : Alu.add16 (zchn true false false true) 0x0FFF 0x0001 = (0x1000, zchn true false false false) := by decide
theorem test_add16_0000_0800 : Alu.add16 (zchn true false false true) 0x0000 0x0800 = (0x0800, zchn true false true false) := by decide
theorem test_add16_ffff_0001 : Alu.add16 (zchn true false false true) 0xFFFF 0x0001 = (0x0000, zchn true true false false) := by decide
theorem test_rlc_80 : Alu.rotate Config.jgameboy .rlc (zchn false false true true) 0x80 = (0x01, zchn false true false false) := by decide
theorem test_rl_80 : Alu.rotate Config.jgameboy .rl (zchn false false true true) 0x80 = (0x00, zchn true true false false) := by decide
theorem test_rrc_85 : Alu.rotate Config.jgameboy .rrc (zchn false false true true) 0x85 = (0xC2, zchn false true false false) := by decide
theorem test_rr_00 : Alu.rotate Config.jgameboy .rr (zchn true true true true) 0x00 = (0x80, zchn false false false false) := by decide
theorem test_sla_80 : Alu.rotate Config.jgameboy .sla (zchn false false true true) 0x80 = (0x00, zchn false true false false) := by decide
theorem test_sra_01 : Alu.rotate Config.jgameboy .sra (zchn false false true true) 0x01 = (0x00, zchn false true false false) := by decide
theorem test_srl_01 : Alu.rotate Config.jgameboy .srl (zchn false false true true) 0x01 = (0x00, zchn true true false false) := by decide
theorem test_swap_f0 : Alu.rotate Config.jgameboy .swap (zchn true true true true) 0xF0 = (0x0F, zchn false false false false) := by decide

/-- SRL_Z, SWAP_Z, SWAP_C, ROTA_Z at their other settings (part 5). -/
theorem test_srl_z_unchanged :
    Alu.rotate { Config.jgameboy with srlZ := .unchanged } .srl (zchn false false true true) 0x01 = (0x00, zchn false true false false) := by decide
theorem test_swap_z_unchanged :
    Alu.rotate { Config.jgameboy with swapZ := .unchanged } .swap (zchn false false true true) 0x00 = (0x00, zchn false false false false) := by decide
theorem test_swap_c_unchanged :
    Alu.rotate { Config.jgameboy with swapC := .unchanged } .swap (zchn false true true true) 0x85 = (0x58, zchn false true false false) := by decide
theorem test_rota_z_cleared :
    (State.rotA { State.reset with a := 0x80, flags := zchn false false true true }
      { Config.jgameboy with rotaZ := .cleared } .rl).flags = zchn false true false false := by decide
theorem test_test_bit_7 : Alu.testBit (zchn true false true true) 0x80 7 = zchn false false false false := by decide
theorem test_set_bit_1 : Alu.setBit 0xD8 1 true = 0xDA := by decide
theorem test_reset_bit_7 : Alu.setBit 0xFF 7 false = 0x7F := by decide
theorem test_set_af : (State.reset.setAF 0x12FF).af = 0x12F0 := by decide
theorem test_set_af_carry : (State.reset.setAF 0x0040).flags = zchn false true false false := by decide
theorem test_push16_wraps : (State.push16 { State.reset with sp := 0x0001 } 0xBEEF).readByte 0xFFFF = 0xEF := by decide

/-! ## One step each: 95_test_vectors.md part 3 -/

theorem test_ld_b_a : view (fun t => (t.b, t.pc)) (step (at0100 [0x47] { State.reset with a := 0x5A })) =
    some (0x5A, 0x0101) := by decide
theorem test_ld_a_d8 : view (fun t => (t.a, t.pc)) (step (at0100 [0x3E, 0x5A] State.reset)) =
    some (0x5A, 0x0102) := by decide
theorem test_ld_h_l : view (fun t => (t.h, t.pc)) (step (at0100 [0x65] State.reset)) =
    some (0x4D, 0x0101) := by decide
theorem test_ld_l_mhl : view (fun t => (t.l, t.h)) (step (at0100 [0x6E] (State.writeByte { State.reset with h := 0xC0, l := 0x00 } 0xC000 0x77))) =
    some (0x77, 0xC0) := by decide
theorem test_ld_mhl_h : view (fun t => (t.flags, t.readByte 0xC012)) (step (at0100 [0x74] { State.reset with h := 0xC0, l := 0x12 })) =
    some (zchn true false true true, 0xC0) := by decide
theorem test_ld_mhl_mhl : view (fun t => (t.running, t.pc, t.readByte 0xC000)) (step (at0100 [0x76] (State.writeByte { State.reset with h := 0xC0, l := 0x00 } 0xC000 0x99))) =
    some (true, 0x0101, 0x99) := by decide
theorem test_ld_mhl_d8 : view (fun t => (t.pc, t.readByte 0xC100)) (step (at0100 [0x36, 0xAB] { State.reset with h := 0xC1, l := 0x00 })) =
    some (0x0102, 0xAB) := by decide
theorem test_ld_mbc_a : view (fun t => (t.pc, t.readByte 0xC200)) (step (at0100 [0x02] { State.reset with a := 0x42, b := 0xC2, c := 0x00 })) =
    some (0x0101, 0x42) := by decide
theorem test_ld_a_mde : view (fun t => (t.a, t.pc)) (step (at0100 [0x1A] { State.reset with d := 0xFF, e := 0x47 })) =
    some (0xFC, 0x0101) := by decide
theorem test_ld_mhli_a : view (fun t => (t.hl, t.readByte 0xFFFF)) (step (at0100 [0x22] { State.reset with a := 0x11, h := 0xFF, l := 0xFF })) =
    some (0x0000, 0x11) := by decide
theorem test_ld_mhld_a : view (fun t => (t.hl, t.readByte 0x0000)) (step (at0100 [0x32] { State.reset with a := 0x12, h := 0x00, l := 0x00 })) =
    some (0xFFFF, 0x12) := by decide
theorem test_ld_a_mhli : view (fun t => (t.a, t.hl)) (step (at0100 [0x2A] { State.reset with h := 0xFF, l := 0x10 })) =
    some (0x80, 0xFF11) := by decide
theorem test_ld_a_mhld : view (fun t => (t.a, t.hl)) (step (at0100 [0x3A] { State.reset with h := 0xFF, l := 0x26 })) =
    some (0xF1, 0xFF25) := by decide
theorem test_ldh_ma8_a : view (fun t => (t.pc, t.readByte 0xFF80)) (step (at0100 [0xE0, 0x80] { State.reset with a := 0x5C })) =
    some (0x0102, 0x5C) := by decide
theorem test_ldh_a_ma8 : view (fun t => (t.a, t.pc)) (step (at0100 [0xF0, 0x40] State.reset)) =
    some (0x91, 0x0102) := by decide
theorem test_ld_mc_a : view (fun t => (t.pc, t.readByte 0xFF81)) (step (at0100 [0xE2] { State.reset with a := 0x5D, c := 0x81 })) =
    some (0x0101, 0x5D) := by decide
theorem test_ld_a_mc : view (fun t => (t.a, t.pc)) (step (at0100 [0xF2] { State.reset with c := 0x24 })) =
    some (0x77, 0x0101) := by decide
theorem test_ld_ma16_a : view (fun t => (t.pc, t.readByte 0xC234)) (step (at0100 [0xEA, 0x34, 0xC2] { State.reset with a := 0x5E })) =
    some (0x0103, 0x5E) := by decide
theorem test_ld_a_ma16 : view (fun t => (t.a, t.pc)) (step (at0100 [0xFA, 0x12, 0xFF] State.reset)) =
    some (0xF3, 0x0103) := by decide
theorem test_ld_bc_d16 : view (fun t => (t.b, t.c, t.pc)) (step (at0100 [0x01, 0x34, 0x12] State.reset)) =
    some (0x12, 0x34, 0x0103) := by decide
theorem test_ld_sp_d16 : view (fun t => (t.sp, t.pc)) (step (at0100 [0x31, 0x00, 0xD0] State.reset)) =
    some (0xD000, 0x0103) := by decide
theorem test_ld_ma16_sp_top : view (fun t => (t.pc, t.readByte 0xFFFF, t.readByte 0x0000)) (step (at0100 [0x08, 0xFF, 0xFF] (State.writeByte { State.reset with sp := 0xABCD } 0x0000 0x11))) =
    some (0x0103, 0xCD, 0xAB) := by decide
theorem test_ld_sp_hl : view (fun t => (t.sp, t.pc)) (step (at0100 [0xF9] State.reset)) =
    some (0x014D, 0x0101) := by decide
theorem test_ld_hl_sp_7f : view (fun t => (t.hl, t.flags)) (step (at0100 [0xF8, 0x7F] { State.reset with sp := 0x00FF })) =
    some (0x017E, zchn false true true false) := by decide
theorem test_ld_hl_sp_ff : view (fun t => (t.hl, t.flags)) (step (at0100 [0xF8, 0xFF] { State.reset with sp := 0x0000 })) =
    some (0xFFFF, zchn false false false false) := by decide
theorem test_push_af : view (fun t => (t.sp, t.readByte 0xFFFD, t.readByte 0xFFFC)) (step (at0100 [0xF5] { State.reset with a := 0x12, flags := zchn false true false true })) =
    some (0xFFFC, 0x12, 0x50) := by decide
theorem test_push_de_wraps : view (fun t => (t.sp, t.readByte 0x0000, t.readByte 0xFFFF)) (step (at0100 [0xD5] { State.reset with sp := 0x0001, d := 0xBE, e := 0xEF })) =
    some (0xFFFF, 0xBE, 0xEF) := by decide
theorem test_pop_af : view (fun t => (t.a, t.flags, t.sp)) (step (at0100 [0xF1] (State.writeByte (State.writeByte { State.reset with sp := 0xC000 } 0xC000 0xFF) 0xC001 0x9A))) =
    some (0x9A, zchn true true true true, 0xC002) := by decide
theorem test_pop_af_4f : view (fun t => (t.a, t.flags)) (step (at0100 [0xF1] (State.writeByte (State.writeByte { State.reset with sp := 0xC000 } 0xC000 0x4F) 0xC001 0x00))) =
    some (0x00, zchn false true false false) := by decide
theorem test_pop_hl_wraps : view (fun t => (t.hl, t.sp)) (step (at0100 [0xE1] (State.writeByte { State.reset with sp := 0xFFFF } 0x0000 0x77))) =
    some (0x7700, 0x0001) := by decide
theorem test_add_a_b : view (fun t => (t.a, t.flags)) (step (at0100 [0x80] { State.reset with a := 0x3A, b := 0xC6, flags := zchn false false false false })) =
    some (0x00, zchn false true false false) := by decide
theorem test_add_a_mhl : view (fun t => (t.a, t.flags)) (step (at0100 [0x86] { State.reset with a := 0x01, h := 0xFF, l := 0x40, flags := zchn false false false false })) =
    some (0x92, zchn false false false false) := by decide
theorem test_add_a_d8 : view (fun t => (t.a, t.flags, t.pc)) (step (at0100 [0xC6, 0x08] { State.reset with a := 0x00, flags := zchn true true false true })) =
    some (0x08, zchn false false true false, 0x0102) := by decide
theorem test_adc_a_c : view (fun t => (t.a, t.flags)) (step (at0100 [0x89] { State.reset with a := 0x0F, c := 0x08, flags := zchn false true false false })) =
    some (0x18, zchn false false true false) := by decide
theorem test_adc_a_d8 : view (fun t => (t.a, t.flags)) (step (at0100 [0xCE, 0x00] { State.reset with a := 0xFF, flags := zchn false true false false })) =
    some (0x00, zchn false true false false) := by decide
theorem test_sub_b : view (fun t => (t.a, t.flags)) (step (at0100 [0x90] { State.reset with a := 0x10, b := 0x18, flags := zchn false false false false })) =
    some (0xF8, zchn false true true true) := by decide
theorem test_sub_d8 : view (fun t => (t.a, t.flags)) (step (at0100 [0xD6, 0x01] { State.reset with a := 0x00, flags := zchn false false false false })) =
    some (0xFF, zchn false true false true) := by decide
theorem test_sbc_a_d : view (fun t => (t.a, t.flags)) (step (at0100 [0x9A] { State.reset with a := 0x10, d := 0x0F, flags := zchn false true false false })) =
    some (0x00, zchn true false false true) := by decide
theorem test_sbc_a_d8 : view (fun t => (t.a, t.flags)) (step (at0100 [0xDE, 0xFF] { State.reset with a := 0x00, flags := zchn false true false false })) =
    some (0x00, zchn false true false true) := by decide
theorem test_and_e : view (fun t => (t.a, t.flags)) (step (at0100 [0xA3] { State.reset with a := 0x5A, e := 0x0F, flags := zchn false true false true })) =
    some (0x0A, zchn false false true false) := by decide
theorem test_and_d8 : view (fun t => (t.a, t.flags)) (step (at0100 [0xE6, 0x0F] { State.reset with a := 0xF0, flags := zchn false true false true })) =
    some (0x00, zchn true false true false) := by decide
theorem test_xor_a : view (fun t => (t.a, t.flags)) (step (at0100 [0xAF] { State.reset with a := 0x5A, flags := zchn false true true true })) =
    some (0x00, zchn true false false false) := by decide
theorem test_xor_d8 : view (fun t => (t.a, t.flags)) (step (at0100 [0xEE, 0x0F] { State.reset with a := 0xFF })) =
    some (0xF0, zchn false false false false) := by decide
theorem test_or_l : view (fun t => (t.a, t.flags)) (step (at0100 [0xB5] { State.reset with a := 0x00, l := 0x00, flags := zchn false true true true })) =
    some (0x00, zchn true false false false) := by decide
theorem test_or_d8 : view (fun t => (t.a, t.flags)) (step (at0100 [0xF6, 0x0F] { State.reset with a := 0x50 })) =
    some (0x5F, zchn false false false false) := by decide
theorem test_cp_mhl : view (fun t => (t.a, t.flags)) (step (at0100 [0xBE] (State.writeByte { State.reset with a := 0x3C, h := 0xC0, l := 0x00, flags := zchn false false false false } 0xC000 0x40))) =
    some (0x3C, zchn false true false true) := by decide
theorem test_cp_d8 : view (fun t => (t.a, t.flags)) (step (at0100 [0xFE, 0x3C] { State.reset with a := 0x3C, flags := zchn false true true false })) =
    some (0x3C, zchn true false false true) := by decide
theorem test_inc_b : view (fun t => (t.b, t.flags)) (step (at0100 [0x04] { State.reset with b := 0xFF, flags := zchn false true false true })) =
    some (0x00, zchn true true true false) := by decide
theorem test_inc_mhl : view (fun t => (t.flags, t.readByte 0xC000)) (step (at0100 [0x34] (State.writeByte { State.reset with h := 0xC0, l := 0x00, flags := zchn false true false true } 0xC000 0xFF))) =
    some (zchn true true true false, 0x00) := by decide
theorem test_dec_c : view (fun t => (t.c, t.flags)) (step (at0100 [0x0D] { State.reset with c := 0x00, flags := zchn true true false false })) =
    some (0xFF, zchn false true true true) := by decide
theorem test_dec_mhl : view (fun t => (t.flags, t.readByte 0xC000)) (step (at0100 [0x35] (State.writeByte { State.reset with h := 0xC0, l := 0x00, flags := zchn false false false false } 0xC000 0x10))) =
    some (zchn false false true true, 0x0F) := by decide
theorem test_rlca : view (fun t => (t.a, t.flags)) (step (at0100 [0x07] { State.reset with a := 0x85, flags := zchn true false true true })) =
    some (0x0B, zchn false true false false) := by decide
theorem test_rrca : view (fun t => (t.a, t.flags)) (step (at0100 [0x0F] { State.reset with a := 0x01, flags := zchn false false false false })) =
    some (0x80, zchn false true false false) := by decide
theorem test_rla : view (fun t => (t.a, t.flags)) (step (at0100 [0x17] { State.reset with a := 0x80, flags := zchn false false true true })) =
    some (0x00, zchn true true false false) := by decide
theorem test_rra : view (fun t => (t.a, t.flags)) (step (at0100 [0x1F] { State.reset with a := 0x81, flags := zchn false true false false })) =
    some (0xC0, zchn false true false false) := by decide
theorem test_daa : view (fun t => (t.running, t.pc, t.a, t.flags)) (step (at0100 [0x27] { State.reset with a := 0x9A, flags := zchn false true true false })) =
    some (false, 0x0101, 0x9A, zchn false true true false) := by decide
theorem test_cpl : view (fun t => (t.a, t.flags)) (step (at0100 [0x2F] { State.reset with a := 0x35, flags := zchn true true false false })) =
    some (0xCA, zchn true true true true) := by decide
theorem test_scf : view (fun t => (t.flags, t.pc)) (step (at0100 [0x37] { State.reset with flags := zchn true false true true })) =
    some (zchn true true false false, 0x0101) := by decide
theorem test_ccf : view (fun t => (t.flags, t.pc)) (step (at0100 [0x3F] { State.reset with flags := zchn true true true true })) =
    some (zchn true false false false, 0x0101) := by decide
theorem test_add_hl_bc : view (fun t => (t.hl, t.flags)) (step (at0100 [0x09] { State.reset with h := 0x8A, l := 0x23, b := 0x06, c := 0x05, flags := zchn true true true true })) =
    some (0x9028, zchn true false false false) := by decide
theorem test_add_hl_hl : view (fun t => (t.hl, t.flags)) (step (at0100 [0x29] { State.reset with h := 0x8A, l := 0x23, flags := zchn false false false true })) =
    some (0x1446, zchn false true false false) := by decide
theorem test_add_hl_de : view (fun t => (t.hl, t.flags)) (step (at0100 [0x19] { State.reset with h := 0x00, l := 0x00, d := 0x08, e := 0x00, flags := zchn false false false false })) =
    some (0x0800, zchn false false true false) := by decide
theorem test_inc_bc : view (fun t => (t.bc, t.flags)) (step (at0100 [0x03] { State.reset with b := 0xFF, c := 0xFF })) =
    some (0x0000, zchn true false true true) := by decide
theorem test_dec_de : view (fun t => (t.de, t.flags)) (step (at0100 [0x1B] { State.reset with d := 0x00, e := 0x00 })) =
    some (0xFFFF, zchn true false true true) := by decide
theorem test_inc_sp : view (fun t => (t.sp, t.flags)) (step (at0100 [0x33] { State.reset with sp := 0xFFFF })) =
    some (0x0000, zchn true false true true) := by decide
theorem test_add_sp_fe : view (fun t => (t.sp, t.flags)) (step (at0100 [0xE8, 0xFE] { State.reset with sp := 0xD000 })) =
    some (0xCFFE, zchn false false false false) := by decide
theorem test_add_sp_wraps : view (fun t => (t.sp, t.flags)) (step (at0100 [0xE8, 0x01] { State.reset with sp := 0xFFFF })) =
    some (0x0000, zchn false true true false) := by decide
theorem test_jp : view (fun t => t.pc) (step (at0100 [0xC3, 0x50, 0x01] State.reset)) =
    some 0x0150 := by decide
theorem test_jp_nz : view (fun t => t.pc) (step (at0100 [0xC2, 0x00, 0x20] { State.reset with flags := zchn false false false false })) =
    some 0x2000 := by decide
theorem test_jp_c_not_taken : view (fun t => t.pc) (step (at0100 [0xDA, 0x00, 0x20] State.reset)) =
    some 0x0103 := by decide
theorem test_jp_hl : view (fun t => t.pc) (step (at0100 [0xE9] State.reset)) =
    some 0x014D := by decide
theorem test_jr_back : view (fun t => t.pc) (step (at0100 [0x18, 0x80] State.reset)) =
    some 0x0082 := by decide
theorem test_jr_forward : view (fun t => t.pc) (step (at0100 [0x18, 0x7F] State.reset)) =
    some 0x0181 := by decide
theorem test_jr_nc : view (fun t => (t.pc, t.flags)) (step (at0100 [0x30, 0xFB] State.reset)) =
    some (0x00FD, zchn true false true true) := by decide
theorem test_jr_nz_not_taken : view (fun t => t.pc) (step (at0100 [0x20, 0x05] State.reset)) =
    some 0x0102 := by decide
theorem test_call : view (fun t => (t.sp, t.pc, t.readByte 0xFFFD, t.readByte 0xFFFC)) (step (at0100 [0xCD, 0x50, 0x01] State.reset)) =
    some (0xFFFC, 0x0150, 0x01, 0x03) := by decide
theorem test_call_nz_not_taken : view (fun t => (t.pc, t.sp)) (step (at0100 [0xC4, 0x34, 0x12] State.reset)) =
    some (0x0103, 0xFFFE) := by decide
theorem test_ret : view (fun t => (t.pc, t.sp)) (step (at0100 [0xC9] (State.writeByte (State.writeByte { State.reset with sp := 0xFFFC } 0xFFFC 0x03) 0xFFFD 0x01))) =
    some (0x0103, 0xFFFE) := by decide
theorem test_reti : view (fun t => (t.pc, t.ime)) (step (at0100 [0xD9] (State.writeByte (State.writeByte { State.reset with sp := 0xFFFC } 0xFFFC 0x03) 0xFFFD 0x01))) =
    some (0x0103, true) := by decide
theorem test_rst_28h : view (fun t => (t.pc, t.ime, t.readByte 0xFFFD, t.readByte 0xFFFC)) (step (at0100 [0xEF] { State.reset with ime := true })) =
    some (0x0028, false, 0x01, 0x01) := by decide
theorem test_stop : view (fun t => (t.pc, t.running)) (step (at0100 [0x10, 0x00] State.reset)) =
    some (0x0101, true) := by decide
theorem test_di : view (fun t => (t.ime, t.pc)) (step (at0100 [0xF3] { State.reset with ime := true })) =
    some (false, 0x0101) := by decide
theorem test_ei : view (fun t => (t.ime, t.pc)) (step (at0100 [0xFB] State.reset)) =
    some (true, 0x0101) := by decide
theorem test_prefix_7c : view (fun t => (t.e, t.pc, t.flags)) (step (at0100 [0xCB, 0x7C] State.reset)) =
    some (0xDA, 0x0101, zchn true false true true) := by decide
theorem test_illegal_d3 : view (fun t => (t.pc, t.running)) (step (at0100 [0xD3, 0x12, 0x34] State.reset)) =
    some (0x0101, true) := by decide

/-- RET cc under settings of the open parameters (part 5); the return address 0x0103 is on the stack. -/
def retStart : State :=
  ((State.reset.setSP 0xFFFC).setIme true).writeBytes 0xFFFC [0x03, 0x01]
theorem test_ret_z_clears_ime : (fun t : State => (t.pc, t.sp, t.ime))
    (retStart.retIf { Config.jgameboy with retccImeClear := .z, retccWhen := .taken } .z) =
    (0x0103, 0xFFFE, false) := by decide
theorem test_ret_nz_not_taken_keeps_ime : (fun t : State => (t.pc, t.ime))
    (retStart.retIf { Config.jgameboy with retccImeClear := .nz, retccWhen := .taken } .nz) =
    (0x0101, true) := by decide
theorem test_ret_nz_always_clears_ime : (fun t : State => (t.pc, t.ime))
    (retStart.retIf { Config.jgameboy with retccImeClear := .nz, retccWhen := .always } .nz) =
    (0x0101, false) := by decide
theorem test_op76_halt : (State.reset.op76 { Config.jgameboy with op76 := .halt }).running = false := by decide
theorem test_op10_halt : (State.reset.op10 { Config.jgameboy with op10 := .halt }).running = false := by decide

/-! ## The extended table as a function: 95_test_vectors.md V10 and part 3 -/

theorem test_ext_rlc_b : (fun t : State => (t.b, t.flags, t.pc)) (State.execExt { State.reset with b := 0x85, flags := zchn true false true true } Config.jgameboy 0x00) =
    (0x0B, zchn false true false false, 0x0100) := by decide
theorem test_ext_rr_e : (fun t : State => (t.e, t.flags)) (State.execExt { State.reset with e := 0x01, flags := zchn false true false false } Config.jgameboy 0x1B) =
    (0x80, zchn false true false false) := by decide
theorem test_ext_sla_h : (fun t : State => (t.h, t.flags)) (State.execExt { State.reset with h := 0x80, flags := zchn false false true true } Config.jgameboy 0x24) =
    (0x00, zchn false true false false) := by decide
theorem test_ext_sra_l : (fun t : State => (t.l, t.flags)) (State.execExt { State.reset with l := 0x81, flags := zchn true false false false } Config.jgameboy 0x2D) =
    (0xC0, zchn true true false false) := by decide
theorem test_ext_swap_mhl : (fun t : State => (t.flags, t.readByte 0xC000)) (State.execExt (State.writeByte { State.reset with h := 0xC0, l := 0x00, flags := zchn false true true true } 0xC000 0x00) Config.jgameboy 0x36) =
    (zchn true false false false, 0x00) := by decide
theorem test_ext_srl_mhl : (fun t : State => (t.flags, t.readByte 0xC000)) (State.execExt (State.writeByte { State.reset with h := 0xC0, l := 0x00, flags := zchn true false true true } 0xC000 0xFF) Config.jgameboy 0x3E) =
    (zchn false true false false, 0x7F) := by decide
theorem test_ext_bit_7_h : (fun t : State => (t.flags, t.h)) (State.execExt { State.reset with h := 0x80, flags := zchn true true true true } Config.jgameboy 0x7C) =
    (zchn false true false false, 0x80) := by decide
theorem test_ext_bit_7_h_clear : (fun t : State => (t.flags, t.h)) (State.execExt { State.reset with h := 0x00, flags := zchn false false true true } Config.jgameboy 0x7C) =
    (zchn true false false false, 0x00) := by decide
theorem test_ext_res_0_mhl : (fun t : State => (t.flags, t.readByte 0xC000)) (State.execExt (State.writeByte { State.reset with h := 0xC0, l := 0x00 } 0xC000 0xFF) Config.jgameboy 0x86) =
    (zchn true false true true, 0xFE) := by decide
theorem test_ext_res_7_a : (fun t : State => (t.a, t.flags)) (State.execExt { State.reset with a := 0xFF, flags := zchn true true true true } Config.jgameboy 0xBF) =
    (0x7F, zchn true true true true) := by decide
theorem test_ext_set_1_e : (fun t : State => (t.e, t.pc)) (State.execExt { State.reset with e := 0x00 } Config.jgameboy 0xCB) =
    (0x02, 0x0100) := by decide
theorem test_ext_set_7_mhl : (fun t : State => (t.flags, t.readByte 0xC000)) (State.execExt (State.writeByte { State.reset with h := 0xC0, l := 0x00 } 0xC000 0x01) Config.jgameboy 0xFE) =
    (zchn true false true true, 0x81) := by decide

/-! ## Witnesses: states and operands that meet the hypotheses of each statement

`State.reset` meets `Inv`, which is the only hypothesis of the statements on the access primitives (O2, O4 to O6, O8),
the loads (O12 to O18), PUSH, INC and DEC, the calls and restarts (O20, O27, O35, O38, O39) and the extended rows that
write a slot (O44, O46). O1, O7, O9 to O11, O19, O21 to O26, O28 to O34, O36, O37, O40, O42, O45 and O47 have none. -/

/-- The invariant holds at reset (O2, O4 to O6, O8, O12 to O18, O20, O27, O35, O38, O39, O44, O46). -/
theorem test_witness_inv : State.reset.Inv := by decide

/-- And at a state with bytes listed on both sides of the wrap (O4 to O6 at 0xFFFF, O20 and O39 at sp = 0x0001). -/
theorem test_witness_inv_listed :
    ((State.setSP State.reset 0x0001).writeBytes 0xFFFF [0x11, 0x22]).Inv := by decide

/-- O2: a cell outside the table, the first below it. -/
theorem test_witness_outside_table : ∀ p ∈ resetTable, (0xFF04 : Word).toNat ≠ p.1 := by decide
/-- O2: a cell in the table, its last. -/
theorem test_witness_in_table : ((0xFFFF, 0x00) : Host.Cell) ∈ resetTable := by decide
/-- O12: slots that are not both (HL), at both edges of the exception. -/
theorem test_witness_load_band : ¬((Slot.mhl = .mhl ∧ Slot.a = .mhl)) ∧ ¬((Slot.l = .mhl ∧ Slot.mhl = .mhl)) := by decide
/-- O13, O41: a setting under which 0x76 or 0x10 halts. -/
theorem test_witness_halt_settings :
    ({ Config.jgameboy with op76 := .halt } : Config).op76 = .halt ∧
      ({ Config.jgameboy with op10 := .halt } : Config).op10 = .halt := by decide
/-- O35: a condition that holds at reset and one that does not. -/
theorem test_witness_call_conditions : State.reset.cond .z = true ∧ State.reset.cond .c = false := by decide
/-- O43: a running state whose byte at pc is 0xCB. -/
theorem test_witness_prefix : (fun s : State => (s.running, s.readByte s.pc)) (at0100 [0xCB] State.reset) =
    (true, 0xCB) := by decide
/-- O49: well-formed instructions of both tables. -/
theorem test_witness_well_formed : WellFormed .primary (.ld_a_d8 0xFF) ∧ WellFormed .extended .set_7_a := by decide
/-- O51: values for each clause under the defaults: the prefix, an illegal value, and bands' first and last values. -/
theorem test_witness_dispatch : (0xCB : Byte) = Config.jgameboy.prefixOp ∧
    ((0xFD : Byte) ≠ Config.jgameboy.prefixOp ∧ (0xFD : Byte) ∈ Config.jgameboy.illegalSet) ∧
    (0x40 : Byte) = opOf 1 Slot.b.code Slot.b.code ∧ (0xBF : Byte) = opOf 2 AluOp.cp.code Slot.a.code ∧
    (0x40 : Byte) ∉ Config.jgameboy.illegalSet ∧ (0xBF : Byte) ∉ Config.jgameboy.unhandledPrimary := by decide
/-- O51: an unhandled value, and an illegal value without a row of its own, under other settings. -/
theorem test_witness_dispatch_other :
    (0x04 : Byte) ∈ ({ Config.jgameboy with unhandledPrimary := [0x04] } : Config).unhandledPrimary ∧
      ((0x00 : Byte) ∈ ({ Config.jgameboy with illegalSet := [0x00] } : Config).illegalSet ∧
        (0x00 : Byte) ∉ Config.illegalOpcodes) := by decide
/-- O52: a running state whose bytes at pc decode. -/
theorem test_witness_step_runs : State.reset.running = true ∧
    decode Config.jgameboy State.reset.fetchBytes = .ok (.nop, [0x00, 0x00]) := ⟨rfl, rfl⟩
/-- O53: a running state and one that is not. -/
theorem test_witness_running : State.reset.running = true ∧ (State.reset.setRunning false).running = false := by decide
/-- O54 to O57: a running state with canonical memory and its next state. -/
theorem test_witness_step : State.reset.Inv ∧ State.reset.running = true ∧
    step State.reset = .next (State.reset.advance 1) := ⟨by decide, rfl, rfl⟩
/-- O55: a step that ends the run. -/
theorem test_witness_end_of_run : (at0100 [0x27] State.reset).readByte 0x0100 = 0x27 ∧
    view State.running (step (at0100 [0x27] State.reset)) = some false := by decide
/-- O56: a step of each kind of clause: ime set, cleared, kept (the selected RET cc is O37's). -/
theorem test_witness_ime : view State.ime (step (at0100 [0xFB] State.reset)) = some true ∧
    view State.ime (step (at0100 [0xFF] { State.reset with ime := true })) = some false ∧
    view State.ime (step (at0100 [0x00] { State.reset with ime := true })) = some true := by decide
/-- O58: a running state whose opcode is not 0xF5. -/
theorem test_witness_not_push_af : State.reset.running = true ∧ State.reset.readByte State.reset.pc ≠ 0xF5 := by decide
/-- O59: an instruction that completes, an address it stores to and the next one, which it does not. -/
theorem test_witness_frame : exec .ld_mbc_a State.reset = .next (State.reset.storeA 0x0013 1) ∧
    (0x0013 : Word) ∈ storeAddrs .ld_mbc_a State.reset ∧ (0x0014 : Word) ∉ storeAddrs .ld_mbc_a State.reset :=
  ⟨rfl, by decide, by decide⟩
/-- O60: a running state with canonical memory, 0x77 at pc and HL at the next byte. -/
def storeAhead : State := at0100 [0x77] { State.reset with h := 0x01, l := 0x01 }
theorem test_witness_store_ahead : storeAhead.Inv ∧ storeAhead.running = true ∧
    storeAhead.readByte storeAhead.pc = 0x77 ∧ storeAhead.hl = storeAhead.pc + 1 := by decide

end Sys2Proof.Tests
end

section
/-! PROOFS. Construction and reset (O1): what an image's cells, the zero fill and the reset table leave at each address. -/

namespace Sys2Proof.Machine

/-- A list of cells gives nothing at an address it does not list. -/
theorem lookupCell_eq_none {cells : List Host.Cell} {a : Nat} (h : ∀ p ∈ cells, p.1 ≠ a) :
    lookupCell a cells = none := by
  induction cells with
  | nil => rfl
  | cons p rest ih =>
    simp only [lookupCell, if_neg (h p (by simp))]
    exact ih fun q hq => h q (by simp [hq])

/-- Outside the reset table an unlisted address reads 0x00. -/
theorem Memory.unlisted_of_outside_resetTable {a : Nat} (h : ∀ p ∈ resetTable, p.1 ≠ a) :
    Memory.unlisted a = 0 := by
  rw [Memory.unlisted, lookupCell_eq_none h]
  rfl

/-- `Memory.read_writeCells_mem` at a named address and value. -/
theorem Memory.read_writeCells_of_mem {m : Memory} (hm : m.wf) {cells : List Host.Cell}
    (hc : ∀ x ∈ cells, x.1 < 65536) (hn : cells.Pairwise fun x y => x.1 ≠ y.1) {a : Nat} {v : Byte}
    (h : (a, v) ∈ cells) : (m.writeCells cells).read a = v :=
  Memory.read_writeCells_mem hm cells hc hn (a, v) h

/-- The empty list is canonical memory. -/
theorem Memory.nil_wf : Memory.wf [] := by simp [Memory.wf]

/-- The zero fill is canonical memory. -/
theorem Memory.zeroed_wf : Memory.zeroed.wf :=
  Memory.writeCells_wf Memory.nil_wf (List.forall_mem_map.mpr resetTable_in_space)

/-- The zero fill reads 0x00 at every address (R66): the table's addresses hold a written 0x00, any other is
unlisted. -/
theorem Memory.read_zeroed (a : Nat) : Memory.zeroed.read a = 0 := by
  rw [Memory.zeroed]
  by_cases h : ∃ p ∈ resetTable, p.1 = a
  · obtain ⟨p, hp, rfl⟩ := h
    refine Memory.read_writeCells_of_mem Memory.nil_wf ?_ ?_ ?_
    · exact List.forall_mem_map.mpr resetTable_in_space
    · exact List.pairwise_map.mpr resetTable_pairwise
    · exact List.mem_map.mpr ⟨p, hp, rfl⟩
  · have hout : ∀ p ∈ resetTable, p.1 ≠ a := fun p hp e => h ⟨p, hp, e⟩
    rw [Memory.read_writeCells_ne _ (resetTable.map fun x => (x.1, 0)) _ (List.forall_mem_map.mpr hout)]
    exact Memory.unlisted_of_outside_resetTable hout

/-- An image laid out from `a` on puts its byte number `i` at `a + i`, and nothing else (R66). -/
theorem mem_imageCells {image : List Byte} {a : Nat} {p : Host.Cell} :
    p ∈ imageCells a image ↔ ∃ i, p.1 = a + i ∧ image[i]? = some p.2 := by
  induction image generalizing a with
  | nil => simp [imageCells]
  | cons v rest ih =>
    rw [imageCells, List.mem_cons, ih]
    constructor
    · rintro (rfl | ⟨i, hi, hv⟩)
      · exact ⟨0, rfl, rfl⟩
      · exact ⟨i + 1, by omega, hv⟩
    · rintro ⟨_ | i, hi, hv⟩
      · exact .inl (Prod.ext hi (Option.some.inj hv).symm)
      · exact .inr ⟨i, by omega, hv⟩

/-- An image lists no address twice. -/
theorem imageCells_pairwise (a : Nat) (image : List Byte) :
    (imageCells a image).Pairwise (fun x y => x.1 ≠ y.1) := by
  induction image generalizing a with
  | nil => exact .nil
  | cons v rest ih =>
    refine .cons (fun p hp => ?_) (ih (a + 1))
    obtain ⟨i, hi, -⟩ := mem_imageCells.mp hp
    omega

/-- What construction loads of an image lies in the address space. -/
theorem imageCells_take_in_space (image : List Byte) :
    ∀ p ∈ imageCells 0 (image.take 65536), p.1 < 65536 := by
  intro p hp
  obtain ⟨i, hi, hv⟩ := mem_imageCells.mp hp
  have hlt : i < (image.take 65536).length := (List.getElem?_eq_some_iff.mp hv).1
  rw [List.length_take] at hlt
  omega

/-- Memory as construction loads it, before `reset()`. -/
def Memory.loaded (image : List Byte) : Memory := Memory.zeroed.writeCells (imageCells 0 (image.take 65536))

theorem Memory.loaded_wf (image : List Byte) : (Memory.loaded image).wf :=
  Memory.writeCells_wf Memory.zeroed_wf (imageCells_take_in_space image)

/-- Loaded memory reads the image's byte at its address, 0x00 past the image (R66). -/
theorem Memory.read_loaded (image : List Byte) {a : Nat} (ha : a < 65536) :
    (Memory.loaded image).read a = (image[a]?).getD 0 := by
  have htake : (image.take 65536)[a]? = image[a]? := List.getElem?_take_of_lt ha
  cases hv : image[a]? with
  | none =>
    have hpast : ∀ p ∈ imageCells 0 (image.take 65536), p.1 ≠ a := by
      rintro p hp rfl
      obtain ⟨i, hi, hb⟩ := mem_imageCells.mp hp
      rw [Nat.zero_add] at hi
      rw [← hi, htake, hv] at hb
      cases hb
    rw [Memory.loaded, Memory.read_writeCells_ne _ _ _ hpast, Memory.read_zeroed]
    rfl
  | some v =>
    exact Memory.read_writeCells_of_mem Memory.zeroed_wf (imageCells_take_in_space image) (imageCells_pairwise 0 _)
      (mem_imageCells.mpr ⟨a, (Nat.zero_add a).symm, htake.trans hv⟩)

/-- Construction loads the image over the zero fill and writes the reset table over that (R380, R382); everything
else is as reset leaves it. -/
theorem State.construct_eq (image : List Byte) :
    State.construct image = { State.reset with mem := (Memory.loaded image).writeCells resetTable } := by
  rw [State.construct, State.resetOp, Memory.loaded]

theorem State.construct_mem (image : List Byte) :
    (State.construct image).mem = (Memory.loaded image).writeCells resetTable := by
  rw [State.construct_eq]

/-- The registers, flags and latches after construction (R34, R381): memory aside they are those of `State.reset`, which
are computed. -/
theorem State.construct_registers (image : List Byte) :
    let s := State.construct image
    s.af = 0x01B0 ∧ s.bc = 0x0013 ∧ s.de = 0x00D8 ∧ s.hl = 0x014D ∧ s.pc = 0x0100 ∧ s.sp = 0xFFFE ∧
      s.flags = { z := true, c := false, h := true, n := true } ∧ s.ime = false ∧ s.running = true := by
  have hreset : State.reset.af = 0x01B0 ∧ State.reset.bc = 0x0013 ∧ State.reset.de = 0x00D8 ∧
      State.reset.hl = 0x014D := by decide
  obtain ⟨haf, hbc, hde, hhl⟩ := hreset
  rw [State.construct_eq]
  generalize (Memory.loaded image).writeCells resetTable = m
  exact ⟨haf, hbc, hde, hhl, rfl, rfl, rfl, rfl, rfl⟩

/-- The reset table, its addresses as words. -/
def resetWords : List (Word × Byte) := resetTable.map fun p => (BitVec.ofNat 16 p.1, p.2)

/-- After construction each cell of the reset table holds its value (R382). -/
theorem State.construct_readByte_resetWords (image : List Byte) :
    ∀ p ∈ resetWords, (State.construct image).readByte p.1 = p.2 := by
  refine List.forall_mem_map.mpr fun p hp => ?_
  rw [State.readByte, State.construct_mem, BitVec.toNat_ofNat, Nat.mod_eq_of_lt (resetTable_in_space p hp)]
  exact Memory.read_writeCells_of_mem (Memory.loaded_wf image) resetTable_in_space resetTable_pairwise hp

/-- After construction a cell outside the reset table holds the image's byte, 0x00 past the image (R66). -/
theorem State.construct_readByte_outside (image : List Byte) (x : Word) (hx : ∀ p ∈ resetWords, x ≠ p.1) :
    (State.construct image).readByte x = (image[x.toNat]?).getD 0 := by
  have hout : ∀ p ∈ resetTable, p.1 ≠ x.toNat := fun p hp e =>
    List.forall_mem_map.mp hx p hp (by rw [e, BitVec.ofNat_toNat, BitVec.setWidth_eq])
  rw [State.readByte, State.construct_mem, Memory.read_writeCells_ne _ _ _ hout, Memory.read_loaded image x.isLt]

/-- Settles O1: the registers and latches are `reset()`'s, the memory is by the two lemmas above; `resetWords` is the
table the statement writes out. -/
theorem constructionAndReset : Obligations.ConstructionAndReset := by
  unfold Obligations.ConstructionAndReset
  intro image
  obtain ⟨haf, hbc, hde, hhl, hpc, hsp, hflags, hime, hrunning⟩ := State.construct_registers image
  exact ⟨haf, hbc, hde, hhl, hpc, hsp, hflags, hime, hrunning, State.construct_readByte_resetWords image,
    State.construct_readByte_outside image⟩

end Sys2Proof.Machine
end

section
/-! PROOFS. The pairs as views of their halves and of the flags (O7). -/

namespace Sys2Proof

theorem hiByte_eq_ofNat (x : Word) : hiByte x = BitVec.ofNat 8 (x.toNat / 256) := by
  rw [hiByte, BitVec.extractLsb', Nat.shiftRight_eq_div_pow]

theorem loByte_eq_ofNat (x : Word) : loByte x = BitVec.ofNat 8 x.toNat := by
  rw [loByte, BitVec.extractLsb', Nat.shiftRight_zero]

/-- A pair's number is 256 times its high half plus its low half (R23). -/
theorem toNat_wordOf (hi lo : Byte) : (wordOf hi lo).toNat = 256 * hi.toNat + lo.toNat := by
  rw [wordOf, BitVec.toNat_append, ← Nat.shiftLeft_add_eq_or_of_lt lo.isLt, Nat.shiftLeft_eq, Nat.mul_comm]

/-- The low byte's bits are the word's low bits. -/
theorem getLsbD_loByte (x : Word) {i : Nat} (hi : i < 8) : (loByte x).getLsbD i = x.getLsbD i := by
  simp [loByte, hi]

/-- Clearing a word's low nibble clears its low byte's. -/
theorem wordOf_and_fff0 (hi lo : Byte) : wordOf hi lo &&& 0xFFF0 = wordOf hi (lo &&& 0xF0) :=
  calc wordOf hi lo &&& 0xFFF0
      = (hi ++ lo) &&& (BitVec.allOnes 8 ++ 0xF0#8) := rfl
    _ = (hi &&& BitVec.allOnes 8) ++ (lo &&& 0xF0#8) := BitVec.and_append
    _ = wordOf hi (lo &&& 0xF0) := by rw [BitVec.and_allOnes]; rfl

end Sys2Proof

namespace Sys2Proof.Machine

/-- Z, C, H, N stand at bits 7, 6, 5, 4 of F (R22). -/
theorem Flags.toNat_pack (f : Flags) :
    f.pack.toNat = 128 * f.z.toNat + 64 * f.c.toNat + 32 * f.h.toNat + 16 * f.n.toNat := by
  rcases f with ⟨_ | _, _ | _, _ | _, _ | _⟩ <;> rfl

/-- A byte written to F reads back without its low nibble (R22). -/
theorem Flags.pack_unpack (v : Byte) : (Flags.unpack v).pack = v &&& 0xF0 := by
  apply BitVec.eq_of_getLsbD_eq
  intro i hi
  simp only [Flags.pack, Flags.unpack, BitVec.getLsbD_append, BitVec.getLsbD_and]
  interval_cases i <;> simp

/-- A word's low byte written to F sets the flags from the word's bits 7 to 4 (R22, R24). -/
theorem Flags.unpack_loByte (x : Word) : Flags.unpack (loByte x) =
    { z := x.getLsbD 7, c := x.getLsbD 6, h := x.getLsbD 5, n := x.getLsbD 4 } := by
  simp (disch := decide) only [Flags.unpack, getLsbD_loByte]

/-- A word written to AF reads back without its low nibble (R24). -/
theorem State.setAF_af (s : State) (x : Word) : (s.setAF x).af = x &&& 0xFFF0 :=
  calc (s.setAF x).af
      = wordOf (hiByte x) (loByte x &&& 0xF0) := by
        rw [State.af, State.setAF_a, State.setAF_flags, Flags.pack_unpack]
    _ = x &&& 0xFFF0 := by rw [← wordOf_and_fff0, wordOf_hiByte_loByte]

/-- Settles O7: a write goes to the halves, a read joins them, and only AF loses bits. -/
theorem pairsAreViewsOfHalves : Obligations.PairsAreViewsOfHalves := by
  unfold Obligations.PairsAreViewsOfHalves
  intro s x
  rw [← hiByte_eq_ofNat, ← loByte_eq_ofNat, ← Flags.unpack_loByte]
  exact ⟨rfl, s.setPair_getPair .bc x, rfl, s.setPair_getPair .de x, rfl, s.setPair_getPair .hl x, rfl,
    s.setAF_af x, s.flags.toNat_pack, toNat_wordOf s.b s.c, toNat_wordOf s.d s.e, toNat_wordOf s.h s.l,
    toNat_wordOf s.a s.flags.pack⟩

end Sys2Proof.Machine
end

section
/-! PROOFS. The byte store (O4, R52). -/

namespace Sys2Proof.Machine

/-- A byte store into canonical memory reads back at its address and changes no other cell and no register (R52). -/
theorem State.writeByte_storesByte {s : State} (hs : s.mem.wf) (x : Word) (v : Byte) :
    StoresByte s (s.writeByte x v) x v := by
  refine ⟨?registers, ?written, ?others⟩
  case registers => rw [State.writeByte]
  case written => exact State.readByte_writeByte_same hs x v
  case others => exact fun y hy => State.readByte_writeByte_ne s v hy

/-- Settles O4, by what a byte store does to canonical memory. -/
theorem byteStoreReadsBack : Obligations.ByteStoreReadsBack := by
  unfold Obligations.ByteStoreReadsBack
  intro s x v hs
  exact State.writeByte_storesByte hs x v

end Sys2Proof.Machine
end

section
/-! PROOFS. The bits of an integer, and what `add`, `sub` and `add16` answer (O9, O11). -/

namespace Sys2Proof.Machine.Alu

/-- A bit of an integer as the spec computes it, by floor division (R7). -/
theorem bitOf_eq_true_iff (x : Int) (i : Nat) : bitOf x i = true ↔ x / 2 ^ i % 2 = 1 := by
  rw [bitOf, beq_iff_eq, Int.natCast_pow, Nat.cast_ofNat]

theorem bitOf_eq_false_iff (x : Int) (i : Nat) : bitOf x i = false ↔ x / 2 ^ i % 2 = 0 := by
  rw [← Bool.not_eq_true, bitOf_eq_true_iff, Int.emod_two_ne_one]

/-- On a natural number the spec's bit is the library's. -/
theorem bitOf_natCast (n i : Nat) : bitOf (n : Int) i = n.testBit i := by
  rw [Bool.eq_iff_iff, bitOf_eq_true_iff, Nat.testBit_eq_decide_div_mod_eq, decide_eq_true_iff]
  norm_cast

/-- The carry out of a sum too small to reach the next bit: bit `i` is set exactly from `2 ^ i` on. -/
theorem bitOf_natCast_of_lt {n i : Nat} (h : n < 2 ^ (i + 1)) : bitOf (n : Int) i = decide (2 ^ i ≤ n) := by
  rw [bitOf_natCast]
  rcases lt_or_ge n (2 ^ i) with hlt | hge
  · rw [Nat.testBit_lt_two_pow hlt, decide_eq_false hlt.not_ge]
  · rw [Nat.testBit_of_two_pow_le_and_two_pow_add_one_gt hge h, decide_eq_true hge]

section
variable (a b : Int)

theorem add_value : (add a b).1 = BitVec.ofInt 8 (a + b) := rfl

theorem sub_value : (sub a b).1 = BitVec.ofInt 8 (a - b) := rfl

/-- Zero looks at the unmasked sum, so a sum of 256 does not set it (R110). -/
theorem add_z_iff : (add a b).2.z = true ↔ a + b = 0 := beq_iff_eq

theorem add_c_iff : (add a b).2.c = true ↔ (a + b) / 256 % 2 = 1 := bitOf_eq_true_iff (a + b) 8

theorem add_h_iff : (add a b).2.h = true ↔ (a + b) / 8 % 2 = 1 ∧ b / 8 % 2 = 1 :=
  (Bool.and_eq_true_iff).trans (and_congr (bitOf_eq_true_iff (a + b) 3) (bitOf_eq_true_iff b 3))

theorem sub_z_iff : (sub a b).2.z = true ↔ a - b = 0 := beq_iff_eq

theorem sub_c_iff : (sub a b).2.c = true ↔ a - b < 0 := decide_eq_true_iff

theorem sub_h_iff : (sub a b).2.h = true ↔ a / 8 % 2 = 0 ∧ b / 8 % 2 = 1 := by
  rw [sub, Bool.and_eq_true_iff, Bool.not_eq_true', bitOf_eq_false_iff, bitOf_eq_true_iff]
  rfl

end

section
variable (a b : Byte)

theorem intOf_add_intOf : intOf a + intOf b = ((a.toNat + b.toNat : Nat) : Int) := (Int.natCast_add _ _).symm

theorem toNat_add_intOf : (add (intOf a) (intOf b)).1.toNat = (a.toNat + b.toNat) % 256 := by
  rw [add_value, intOf_add_intOf, BitVec.ofInt_natCast, BitVec.toNat_ofNat]

theorem toNat_sub_intOf : (sub (intOf a) (intOf b)).1.toNat = (a.toNat + 256 - b.toNat) % 256 := by
  rw [sub_value, BitVec.toNat_ofInt, intOf, intOf]
  omega

theorem add_intOf_z_iff : (add (intOf a) (intOf b)).2.z = true ↔ a = 0 ∧ b = 0 := by
  rw [add_z_iff, intOf, intOf]
  bv_omega

/-- The sum of two bytes has nine bits, so its bit 8 is the carry out (R110). -/
theorem add_intOf_c_iff : (add (intOf a) (intOf b)).2.c = true ↔ 256 ≤ a.toNat + b.toNat := by
  have hbits : a.toNat + b.toNat < 2 ^ 9 := by omega
  rw [add, intOf_add_intOf, bitOf_natCast_of_lt hbits]
  exact decide_eq_true_iff

theorem sub_intOf_z_iff : (sub (intOf a) (intOf b)).2.z = true ↔ a = b := by
  rw [sub_z_iff, Int.sub_eq_zero, intOf, intOf, Int.natCast_inj, BitVec.toNat_inj]

theorem sub_intOf_c_iff : (sub (intOf a) (intOf b)).2.c = true ↔ a.toNat < b.toNat := by
  rw [sub_c_iff, sub_neg, intOf, intOf, Int.ofNat_lt]

end

/-- Settles O9: the flags of all integers, then of bytes, where bit 8 of the sum is the carry out. -/
theorem addAndSubHelperRule : Obligations.AddAndSubHelperRule := by
  unfold Obligations.AddAndSubHelperRule
  refine ⟨?integers, ?bytes⟩
  case integers =>
    intro a b
    exact ⟨add_value a b, add_z_iff a b, add_c_iff a b, add_h_iff a b, rfl,
      sub_value a b, sub_c_iff a b, sub_z_iff a b, sub_h_iff a b, rfl⟩
  case bytes =>
    intro a b
    exact ⟨toNat_add_intOf a b, add_intOf_z_iff a b, add_intOf_c_iff a b,
      toNat_sub_intOf a b, sub_intOf_z_iff a b, sub_intOf_c_iff a b⟩

section
variable (f : Flags) (a b : Word)

theorem toNat_add16 : (add16 f a b).1.toNat = (a.toNat + b.toNat) % 65536 := by
  rw [add16, ← Int.natCast_add, BitVec.ofInt_natCast, BitVec.toNat_ofNat]

/-- The sum of two words has seventeen bits, so its bit 16 is the carry out (R120). -/
theorem add16_flags : (add16 f a b).2 =
    { z := f.z, c := decide (65536 ≤ a.toNat + b.toNat),
      h := (a.toNat + b.toNat).testBit 11 && b.toNat.testBit 11, n := false } := by
  have hbits : a.toNat + b.toNat < 2 ^ 17 := by omega
  rw [add16, ← Int.natCast_add, bitOf_natCast_of_lt hbits, bitOf_natCast, bitOf_natCast]
  rfl

end

/-- Settles O11, by the value and the flags of `add16`. -/
theorem add16HelperRule : Obligations.Add16HelperRule := by
  unfold Obligations.Add16HelperRule
  intro f a b
  exact ⟨toNat_add16 f a b, add16_flags f a b⟩

end Sys2Proof.Machine.Alu
end

section
/-! PROOFS. The stack primitives (O6, R147, R148). -/

namespace Sys2Proof.Machine

/-- Push16 is two byte stores below the old `sp`, the high byte first (R147). -/
theorem State.push16_eq_writeByte (s : State) (v : Word) : s.push16 v =
    ((s.setSP (s.sp - 2)).writeByte (s.sp - 1) (hiByte v)).writeByte (s.sp - 2) (loByte v) := by
  rw [State.push16_eq]
  rfl

@[simp] theorem State.push16_sp (s : State) (v : Word) : (s.push16 v).sp = s.sp - 2 := by
  rw [State.push16_eq]

/-- The low byte stands at the new `sp` (R147). -/
theorem State.push16_readByte_low {s : State} (hs : s.mem.wf) (v : Word) :
    (s.push16 v).readByte (s.sp - 2) = loByte v := by
  rw [State.push16_eq_writeByte]
  exact State.readByte_writeByte_same (State.writeByte_wf hs (s.sp - 1) (hiByte v)) (s.sp - 2) (loByte v)

/-- The high byte stands above the low one, whose store does not reach it (R147). -/
theorem State.push16_readByte_high {s : State} (hs : s.mem.wf) (v : Word) :
    (s.push16 v).readByte (s.sp - 1) = hiByte v := by
  have hne : s.sp - 1 ≠ s.sp - 2 := by bv_omega
  rw [State.push16_eq_writeByte, State.readByte_writeByte_ne _ _ hne]
  exact State.readByte_writeByte_same (s := s.setSP (s.sp - 2)) hs (s.sp - 1) (hiByte v)

/-- The two cells of a push are adjacent at every `sp`, the wrap included. -/
theorem word_sub_two_add_one (x : Word) : x - 2 + 1 = x - 1 := by bv_omega

/-- Push16 lowers `sp` by 2 and stores its word there, little-endian, and does nothing else (R147). -/
theorem State.push16_storesWord {s : State} (hs : s.mem.wf) (v : Word) :
    StoresWord { s with sp := s.sp - 2 } (s.push16 v) (s.sp - 2) v := by
  refine ⟨?registers, State.push16_readByte_low hs v, ?high, ?others⟩
  case registers => rw [State.push16_eq]
  case high => rw [word_sub_two_add_one, State.push16_readByte_high hs]
  case others =>
    intro x hlow hhigh
    rw [word_sub_two_add_one] at hhigh
    exact s.push16_readByte v x hhigh hlow

/-- Pop16 answers the word just pushed (R148). -/
theorem State.push16_topWord {s : State} (hs : s.mem.wf) (v : Word) : (s.push16 v).topWord = v := by
  rw [State.topWord, State.push16_sp, word_sub_two_add_one, State.push16_readByte_high hs,
    State.push16_readByte_low hs, wordOf_hiByte_loByte]

/-- Pop16 after a push returns `sp` to its old value; the pushed cells keep their contents (R148). -/
theorem State.push16_dropWord (s : State) (v : Word) :
    (s.push16 v).dropWord = { s.push16 v with sp := s.sp } := by
  rw [State.dropWord_eq, State.push16_sp, BitVec.sub_add_cancel]

/-- Settles O6, by what a push stores and what a pop then reads. -/
theorem pushThenPopRoundTrips : Obligations.PushThenPopRoundTrips := by
  unfold Obligations.PushThenPopRoundTrips
  intro s v hs
  exact ⟨State.push16_storesWord hs v, State.push16_readByte_high hs v, State.push16_topWord hs v,
    s.push16_dropWord v, rfl, s.dropWord_eq⟩

end Sys2Proof.Machine
end

section
/-! PROOFS. The eight slots (O8, R149). -/

namespace Sys2Proof.Machine

/-- ReadSlot of a register slot is the register (R149). -/
theorem State.readSlot_of_slotReg (s : State) {z : Slot} {r : Reg} (h : slotReg z = some r) :
    s.readSlot z = s.getReg r := by
  rw [State.readSlot, h]

/-- WriteSlot of a register slot writes the register (R149). -/
theorem State.writeSlot_of_slotReg (s : State) {z : Slot} {r : Reg} (h : slotReg z = some r) (v : Byte) :
    s.writeSlot z v = s.setReg r v := by
  rw [State.writeSlot, h]

/-- ReadSlot of slot 6 is the byte at HL (R149). -/
theorem State.readSlot_mhl (s : State) : s.readSlot .mhl = s.readByte s.hl := by
  rw [State.readSlot, slotReg]

/-- WriteSlot of slot 6 is a byte store at HL (R149). -/
theorem State.writeSlot_mhl (s : State) (v : Byte) : s.writeSlot .mhl v = s.writeByte s.hl v := by
  rw [State.writeSlot, slotReg]

/-- WriteSlot of slot 6 changes the byte at HL and nothing else (R149). -/
theorem State.writeSlot_mhl_storesByte {s : State} (hs : s.mem.wf) (v : Byte) :
    StoresByte s (s.writeSlot .mhl v) s.hl v := by
  rw [State.writeSlot_mhl]
  exact State.writeByte_storesByte hs s.hl v

/-- Settles O8: a register slot is its register, slot 6 the byte at HL. -/
theorem slotAccess : Obligations.SlotAccess := by
  unfold Obligations.SlotAccess
  intro s v hs
  exact ⟨s.readSlot_of_slotReg (r := .b) rfl, s.readSlot_of_slotReg (r := .c) rfl,
    s.readSlot_of_slotReg (r := .d) rfl, s.readSlot_of_slotReg (r := .e) rfl,
    s.readSlot_of_slotReg (r := .h) rfl, s.readSlot_of_slotReg (r := .l) rfl,
    s.readSlot_mhl, s.readSlot_of_slotReg (r := .a) rfl,
    s.writeSlot_of_slotReg (r := .b) rfl v, s.writeSlot_of_slotReg (r := .c) rfl v,
    s.writeSlot_of_slotReg (r := .d) rfl v, s.writeSlot_of_slotReg (r := .e) rfl v,
    s.writeSlot_of_slotReg (r := .h) rfl v, s.writeSlot_of_slotReg (r := .l) rfl v,
    State.writeSlot_mhl_storesByte hs v, s.writeSlot_of_slotReg (r := .a) rfl v⟩

end Sys2Proof.Machine
end

section
/-! PROOFS. The frame of a slot write, and the load band and the immediate loads that are slot writes (O12, O14, R149,
R170 to R175). -/

namespace Sys2Proof.Machine

@[simp] theorem State.advance_readSlot (s : State) (n : Word) (z : Slot) :
    (s.advance n).readSlot z = s.readSlot z := by
  cases z <;> rfl

/-- A slot just written reads back; slot 6 reads at the HL the write used, which it left alone (R149). -/
theorem State.writeSlot_readSlot_same {s : State} (hs : s.mem.wf) (z : Slot) (v : Byte) :
    (s.writeSlot z v).readSlot z = v := by
  rcases s.writeSlot_cases z v with ⟨r, hz, hw⟩ | ⟨rfl, hw⟩
  · rw [hw, State.readSlot_of_slotReg _ hz, State.setReg_getReg, if_pos rfl]
  · rw [hw, State.readSlot_mhl, State.writeByte_hl, State.readByte_writeByte_same hs]

/-- A slot write changes no register but the slot's own (R149). -/
theorem State.writeSlot_getReg (s : State) {z : Slot} (v : Byte) {q : Reg} (hq : slotReg z ≠ some q) :
    (s.writeSlot z v).getReg q = s.getReg q := by
  rcases s.writeSlot_cases z v with ⟨r, hz, hw⟩ | ⟨-, hw⟩
  · have hne : q ≠ r := fun e => hq (e ▸ hz)
    rw [hw, State.setReg_getReg, if_neg hne]
  · rw [hw, State.writeByte_getReg]

/-- WriteSlot writes its slot and nothing else (R149). -/
theorem State.writeSlot_writesSlot {s : State} (hs : s.mem.wf) (z : Slot) (v : Byte) :
    WritesSlot s (s.writeSlot z v) z v s.flags s.pc :=
  ⟨State.writeSlot_readSlot_same hs z v, s.writeSlot_flags z v, s.writeSlot_pc z v, s.writeSlot_sp z v,
    s.writeSlot_running z v, s.writeSlot_ime z v, fun _ => s.writeSlot_getReg v, s.writeSlot_readByte z v⟩

/-- Advancing `pc` after a slot write changes its frame in `pc` only (R145). -/
theorem WritesSlot.advance {s t : State} {z : Slot} {v : Byte} {f : Flags} {pc' : Word}
    (h : WritesSlot s t z v f pc') (n : Word) : WritesSlot s (t.advance n) z v f (pc' + n) := by
  obtain ⟨hslot, hflags, hpc, hsp, hrunning, hime, hregs, hmem⟩ := h
  refine ⟨?slot, hflags, ?pc, hsp, hrunning, hime, ?regs, hmem⟩
  case slot => rw [State.advance_readSlot, hslot]
  case pc => rw [State.advance_pc, hpc]
  case regs => exact fun r hr => by rw [State.advance_getReg, hregs r hr]

theorem State.loadSlot_writesSlot {s : State} (hs : s.mem.wf) (dst src : Slot) :
    WritesSlot s (s.loadSlot dst src) dst (s.readSlot src) s.flags (s.pc + 1) :=
  (State.writeSlot_writesSlot hs dst (s.readSlot src)).advance 1

theorem State.loadImm_writesSlot {s : State} (hs : s.mem.wf) (z : Slot) (n : Byte) :
    WritesSlot s (s.loadImm z n) z n s.flags (s.pc + 2) :=
  (State.writeSlot_writesSlot hs z n).advance 2

/-- Every entry of the load band copies its slot, (HL),(HL) too, where OP76 is at its default (R170 to R172, D15). -/
theorem exec_ldBand (dst src : Slot) (s : State) : exec (Instr.ldBand dst src) s = .next (s.loadSlot dst src) := by
  cases dst <;> cases src <;> rfl

theorem encode_ldBand (dst src : Slot) : encode (Instr.ldBand dst src) = [opOf 1 dst.code src.code] := by
  cases dst <;> cases src <;> rfl

theorem exec_ldImm (z : Slot) (n : Byte) (s : State) : exec (Instr.ldImm z n) s = .next (s.loadImm z n) := by
  cases z <;> rfl

theorem encode_ldImm (z : Slot) (n : Byte) : encode (Instr.ldImm z n) = [opOf 0 z.code 6, n] := by
  cases z <;> rfl

/-- Settles O12: a band load is one slot write of the value the source slot held before it. -/
theorem loadBandCopiesSlots : Obligations.LoadBandCopiesSlots := by
  unfold Obligations.LoadBandCopiesSlots
  intro s dst src hs _
  exact ⟨encode_ldBand dst src, s.loadSlot dst src, exec_ldBand dst src s, State.loadSlot_writesSlot hs dst src⟩

/-- Settles O14: an immediate load is one slot write of the operand byte. -/
theorem immediateLoadsWriteTheirSlot : Obligations.ImmediateLoadsWriteTheirSlot := by
  unfold Obligations.ImmediateLoadsWriteTheirSlot
  intro s z n hs
  exact ⟨encode_ldImm z n, s.loadImm z n, exec_ldImm z n s, State.loadImm_writesSlot hs z n⟩

end Sys2Proof.Machine
end

section
/-! PROOFS. Stores and loads of A at an address (O15, R176 to R179). -/

namespace Sys2Proof.Machine

/-- A store of A writes one byte of memory and advances `pc` (R176, R177). -/
theorem State.storeA_storesByte {s : State} (hs : s.mem.wf) (x n : Word) :
    StoresByte { s with pc := s.pc + n } (s.storeA x n) x s.a :=
  State.writeByte_storesByte (s := s.advance n) hs x s.a

/-- A load of A changes A and `pc` (R178, R179). -/
theorem State.loadA_eq (s : State) (x n : Word) :
    s.loadA x n = { s with a := s.readByte x, pc := s.pc + n } := rfl

/-- Settles O15: each store is a store of A, each load a load of A, at BC or DE. -/
theorem loadsThroughBCAndDE : Obligations.LoadsThroughBCAndDE := by
  unfold Obligations.LoadsThroughBCAndDE
  intro s hs
  refine ⟨rfl, rfl, rfl, rfl, ?storeAtBC, ?storeAtDE, ?loadFromBC, ?loadFromDE⟩
  case storeAtBC => exact ⟨s.storeA s.bc 1, rfl, State.storeA_storesByte hs s.bc 1⟩
  case storeAtDE => exact ⟨s.storeA s.de 1, rfl, State.storeA_storesByte hs s.de 1⟩
  case loadFromBC => exact congrArg Host.Outcome.next (s.loadA_eq s.bc 1)
  case loadFromDE => exact congrArg Host.Outcome.next (s.loadA_eq s.de 1)

end Sys2Proof.Machine
end

section
/-! PROOFS. The word store, and the 16-bit loads (O18, R53, R210 to R212). -/

namespace Sys2Proof.Machine

/-- The two cells of a word store are distinct at every address, the wrap included (R53). -/
theorem word_ne_add_one (x : Word) : x ≠ x + 1 := by bv_omega

/-- A word store into canonical memory writes its two bytes little-endian and does nothing else (R53). -/
theorem State.writeWord_storesWord {s : State} (hs : s.mem.wf) (x v : Word) :
    StoresWord s (s.writeWord x v) x v := by
  have hlowWf : (s.writeByte x (loByte v)).mem.wf := State.writeByte_wf hs x (loByte v)
  refine ⟨rfl, ?low, ?high, s.writeWord_readByte x v⟩
  case low =>
    rw [State.writeWord, State.readByte_writeByte_ne _ _ (word_ne_add_one x), State.readByte_writeByte_same hs]
  case high => exact State.readByte_writeByte_same hlowWf (x + 1) (hiByte v)

/-- Advancing `pc` on both sides keeps a word store's frame (R145). -/
theorem StoresWord.advance {s t : State} {x v : Word} (h : StoresWord s t x v) (n : Word) :
    StoresWord (s.advance n) (t.advance n) x v := by
  obtain ⟨hregisters, hlow, hhigh, hothers⟩ := h
  exact ⟨congrArg (·.advance n) hregisters, hlow, hhigh, hothers⟩

theorem exec_ldPair (p : Pair) (n : Word) (s : State) :
    exec (Instr.ldPair p n) s = .next ((s.setPair p n).advance 3) := by
  cases p <;> rfl

theorem encode_ldPair (p : Pair) (n : Word) :
    encode (Instr.ldPair p n) = [opOf 0 (p.code ++ 0#1) 1, loByte n, hiByte n] := by
  cases p <;> rfl

/-- Settles O18: an immediate load is one pair write, LD (a16),SP one word store. -/
theorem sixteenBitLoads : Obligations.SixteenBitLoads := by
  unfold Obligations.SixteenBitLoads
  intro s n hs
  have hstore : StoresWord (s.advance 3) ((s.writeWord n s.sp).advance 3) n s.sp :=
    (State.writeWord_storesWord hs n s.sp).advance 3
  exact ⟨(encode_ldPair · n), rfl, rfl, exec_ldPair .bc n s, exec_ldPair .de n s, exec_ldPair .hl n s,
    exec_ldPair .sp n s, ⟨(s.writeWord n s.sp).advance 3, rfl, hstore⟩, rfl⟩

end Sys2Proof.Machine
end

section
/-! PROOFS. PUSH (O20, R214, R215). -/

namespace Sys2Proof.Machine

/-- The flags byte in the packing of R22, as a number. -/
theorem Flags.pack_eq_ofNat (f : Flags) :
    f.pack = BitVec.ofNat 8 (128 * f.z.toNat + 64 * f.c.toNat + 32 * f.h.toNat + 16 * f.n.toNat) := by
  rw [← Flags.toNat_pack, BitVec.ofNat_toNat, BitVec.setWidth_eq]

theorem exec_push (p : StackPair) (s : State) : exec (Instr.push p) s = .next (s.pushPair p) := by
  cases p <;> rfl

theorem encode_push (p : StackPair) : encode (Instr.push p) = [opOf 3 (p.code ++ 0#1) 5] := by
  cases p <;> rfl

/-- PUSH lowers `sp` by 2, stores its pair there and advances `pc`, and does nothing else (R214, R215). -/
theorem State.pushPair_storesWord {s : State} (hs : s.mem.wf) (p : StackPair) :
    StoresWord { s with sp := s.sp - 2, pc := s.pc + 1 } (s.pushPair p) (s.sp - 2) (s.getStackPair p) :=
  (State.push16_storesWord hs (s.getStackPair p)).advance 1

/-- Settles O20: PUSH is one word store below `sp` of the pair's word, AF's low byte being the packed flags. -/
theorem pushStoresThePair : Obligations.PushStoresThePair := by
  unfold Obligations.PushStoresThePair
  intro s hs
  rw [← Flags.pack_eq_ofNat]
  exact ⟨encode_push,
    ⟨s.pushPair .bc, exec_push .bc s, State.pushPair_storesWord hs .bc⟩,
    ⟨s.pushPair .de, exec_push .de s, State.pushPair_storesWord hs .de⟩,
    ⟨s.pushPair .hl, exec_push .hl s, State.pushPair_storesWord hs .hl⟩,
    ⟨s.pushPair .af, exec_push .af s, State.pushPair_storesWord hs .af⟩⟩

end Sys2Proof.Machine
end

section
/-! PROOFS. POP (O21, R216, R217). -/

namespace Sys2Proof.Machine

/-- The popped word's high byte is the byte above `sp` (R148). -/
@[simp] theorem State.hiByte_topWord (s : State) : hiByte s.topWord = s.readByte (s.sp + 1) := by
  rw [State.topWord, hiByte_wordOf]

/-- The popped word's low byte is the byte at `sp` (R148). -/
@[simp] theorem State.loByte_topWord (s : State) : loByte s.topWord = s.readByte s.sp := by
  rw [State.topWord, loByte_wordOf]

/-- A byte written to F, with its bits as those of its number; bit 7 is set from 128 on (R22). -/
theorem Flags.unpack_eq_testBit (v : Byte) : Flags.unpack v =
    { z := decide (128 ≤ v.toNat), c := v.toNat.testBit 6, h := v.toNat.testBit 5, n := v.toNat.testBit 4 } := by
  have hz : v.getLsbD 7 = decide (128 ≤ v.toNat) := (v.msb_eq_getLsbD_last).symm.trans v.msb_eq_decide
  rw [Flags.unpack, hz]
  rfl

theorem encode_pop (p : StackPair) : encode (Instr.pop p) = [opOf 3 (p.code ++ 0#1) 1] := by
  cases p <;> rfl

/-- POP raises `sp` by 2 and advances `pc`, and writes the word at the old `sp` to its pair (R216, R217). -/
theorem State.popPair_eq (s : State) (p : StackPair) :
    s.popPair p = { s with sp := s.sp + 2, pc := s.pc + 1 }.setStackPair p s.topWord := by
  rw [State.popPair, State.dropWord_eq]
  cases p <;> rfl

theorem exec_pop (p : StackPair) (s : State) : exec (Instr.pop p) s =
    .next ({ s with sp := s.sp + 2, pc := s.pc + 1 }.setStackPair p s.topWord) := by
  rw [← State.popPair_eq]
  cases p <;> rfl

/-- Settles O21: POP is one pair write of the word at `sp`, for AF through the flags' unpacking. -/
theorem popLoadsThePair : Obligations.PopLoadsThePair := by
  unfold Obligations.PopLoadsThePair
  intro s
  refine ⟨encode_pop, ?bc, ?de, ?hl, ?af⟩
  case bc => rw [exec_pop, State.setStackPair, State.setBC, State.hiByte_topWord, State.loByte_topWord]
  case de => rw [exec_pop, State.setStackPair, State.setDE, State.hiByte_topWord, State.loByte_topWord]
  case hl => rw [exec_pop, State.setStackPair, State.setHL, State.hiByte_topWord, State.loByte_topWord]
  case af =>
    rw [exec_pop, State.setStackPair, State.setAF, State.hiByte_topWord, State.loByte_topWord,
      Flags.unpack_eq_testBit]

end Sys2Proof.Machine
end

section
/-! PROOFS. The ALU band: ADD and SUB (O22, R230, R232), AND, XOR and OR (O24, R234 to R236). -/

namespace Sys2Proof.Machine

namespace Alu

variable (a b : Byte)

/-- What `add` answers for two bytes, in their numbers (R110). -/
theorem add_intOf : add (intOf a) (intOf b) =
    (BitVec.ofNat 8 (a.toNat + b.toNat),
      { z := decide (a.toNat + b.toNat = 0), c := decide (256 ≤ a.toNat + b.toNat),
        h := (a.toNat + b.toNat).testBit 3 && b.toNat.testBit 3, n := false }) := by
  have hbits : a.toNat + b.toNat < 2 ^ 9 := by omega
  have hz : (((a.toNat + b.toNat : Nat) : Int) == 0) = decide (a.toNat + b.toNat = 0) :=
    decide_eq_decide.mpr Int.natCast_eq_zero
  rw [add, intOf_add_intOf, hz, bitOf_natCast_of_lt hbits, bitOf_natCast, intOf, bitOf_natCast,
    BitVec.ofInt_natCast]
  rfl

/-- What `sub` answers for two bytes, in their numbers (R112). -/
theorem sub_intOf : sub (intOf a) (intOf b) =
    (BitVec.ofNat 8 (a.toNat + 256 - b.toNat),
      { z := decide (a.toNat = b.toNat), c := decide (a.toNat < b.toNat),
        h := !a.toNat.testBit 3 && b.toNat.testBit 3, n := true }) := by
  have hvalue : BitVec.ofInt 8 (intOf a - intOf b) = BitVec.ofNat 8 (a.toNat + 256 - b.toNat) :=
    BitVec.eq_of_toNat_eq (by rw [← sub_value, toNat_sub_intOf, BitVec.toNat_ofNat])
  have hz : (intOf a - intOf b == 0) = decide (a.toNat = b.toNat) :=
    decide_eq_decide.mpr (Int.sub_eq_zero.trans Int.natCast_inj)
  have hc : decide (intOf a - intOf b < 0) = decide (a.toNat < b.toNat) :=
    decide_eq_decide.mpr (sub_neg.trans Int.ofNat_lt)
  rw [sub, hvalue, hz, hc, intOf, intOf, bitOf_natCast, bitOf_natCast]

/-- A byte XOR itself is 0 with Zero set (R235). -/
theorem xor_self : xor a a = (0, { z := true, c := false, h := false, n := false }) := by
  rw [xor, BitVec.xor_self]
  rfl

end Alu

theorem encode_aluBand (op : AluOp) (z : Slot) : encode (Instr.aluBand op z) = [opOf 2 op.code z.code] := by
  cases op <;> cases z <;> rfl

/-- An entry of the ALU band writes A and the flags from its helper's answer and advances `pc` (R230 to R237). -/
theorem exec_aluBand (op : AluOp) (z : Slot) (s : State) :
    exec (Instr.aluBand op z) s =
      let r := Alu.apply Config.jgameboy op s.flags s.a (s.readSlot z)
      .next { s with a := r.1, flags := r.2, pc := s.pc + 1 } := by
  have hslot : exec (Instr.aluBand op z) s = .next (s.aluSlot Config.jgameboy op z) := by
    cases op <;> cases z <;> rfl
  rw [hslot]
  rfl

/-- Settles O22: ADD and SUB write what `add` and `sub` answer for A and the slot. -/
theorem addAndSubBand : Obligations.AddAndSubBand := by
  unfold Obligations.AddAndSubBand
  intro s z
  refine ⟨encode_aluBand .add z, encode_aluBand .sub z, ?add, ?sub⟩
  case add => rw [exec_aluBand, Alu.apply, Alu.add_intOf]
  case sub => rw [exec_aluBand, Alu.apply, Alu.sub_intOf]

/-- Settles O24: each logic entry writes what its helper answers; for XOR A the operand is A itself. -/
theorem logicBand : Obligations.LogicBand := by
  unfold Obligations.LogicBand
  intro s z
  refine ⟨encode_aluBand .and z, encode_aluBand .xor z, encode_aluBand .or z,
    exec_aluBand .and z s, exec_aluBand .xor z s, exec_aluBand .or z s, ?xorA⟩
  case xorA =>
    have hexec := exec_aluBand .xor .a s
    rw [State.readSlot_of_slotReg s (r := .a) rfl, State.getReg, Alu.apply, Alu.xor_self] at hexec
    exact hexec

end Sys2Proof.Machine
end

section
/-! PROOFS. INC and DEC of a slot (O27, R246 to R249). -/

namespace Sys2Proof.Machine

namespace Alu

variable (f : Flags) (v : Byte)

/-- The low nibble of a byte as a number. -/
theorem toNat_lowNibble : (v.extractLsb' 0 4).toNat = v.toNat % 16 := by
  rw [BitVec.extractLsb'_toNat, Nat.shiftRight_zero]

/-- What `inc` answers, in the number of the byte before (R118). -/
theorem inc_eq : inc f v =
    (BitVec.ofNat 8 (v.toNat + 1),
      { z := decide (v.toNat = 255), c := f.c, h := decide (v.toNat % 16 = 15), n := false }) := by
  have hvalue : v + 1 = BitVec.ofNat 8 (v.toNat + 1) := by bv_omega
  have hz : (v + 1 == 0) = decide (v.toNat = 255) := decide_eq_decide.mpr (by bv_omega)
  have hh : (v.extractLsb' 0 4 == 0xF) = decide (v.toNat % 16 = 15) :=
    decide_eq_decide.mpr (by rw [← toNat_lowNibble, ← BitVec.toNat_inj]; rfl)
  rw [inc, hz, hh, hvalue]

/-- What `dec` answers, in the number of the byte before (R119). -/
theorem dec_eq : dec f v =
    (BitVec.ofNat 8 (v.toNat + 255),
      { z := decide (v.toNat = 1), c := f.c, h := decide (v.toNat % 16 = 0), n := true }) := by
  have hvalue : v - 1 = BitVec.ofNat 8 (v.toNat + 255) := by bv_omega
  have hz : (v - 1 == 0) = decide (v.toNat = 1) := decide_eq_decide.mpr (by bv_omega)
  have hh : (v.extractLsb' 0 4 == 0x0) = decide (v.toNat % 16 = 0) :=
    decide_eq_decide.mpr (by rw [← toNat_lowNibble, ← BitVec.toNat_inj]; rfl)
  rw [dec, hz, hh, hvalue]

end Alu

@[simp] theorem State.setFlags_readSlot (s : State) (f : Flags) (z : Slot) :
    (s.setFlags f).readSlot z = s.readSlot z := by
  cases z <;> rfl

/-- Writing the flags after a slot write changes its frame in the flags only. -/
theorem WritesSlot.setFlags {s t : State} {z : Slot} {v : Byte} {f : Flags} {pc' : Word}
    (h : WritesSlot s t z v f pc') (g : Flags) : WritesSlot s (t.setFlags g) z v g pc' := by
  obtain ⟨hslot, -, hpc, hsp, hrunning, hime, hregs, hmem⟩ := h
  refine ⟨?slot, t.setFlags_flags g, hpc, hsp, hrunning, hime, ?regs, hmem⟩
  case slot => rw [State.setFlags_readSlot, hslot]
  case regs => exact fun r hr => by rw [State.setFlags_getReg, hregs r hr]

/-- A slot and the flags are all that a helper's answer replaces. -/
theorem State.updateSlot_writesSlot {s : State} (hs : s.mem.wf) (z : Slot) (r : Byte × Flags) :
    WritesSlot s (s.updateSlot z r) z r.1 r.2 s.pc :=
  (State.writeSlot_writesSlot hs z r.1).setFlags r.2

theorem exec_incSlot (z : Slot) (s : State) : exec (Instr.incSlot z) s = .next (s.incSlot z) := by
  cases z <;> rfl

theorem encode_incSlot (z : Slot) : encode (Instr.incSlot z) = [opOf 0 z.code 4] := by
  cases z <;> rfl

theorem exec_decSlot (z : Slot) (s : State) : exec (Instr.decSlot z) s = .next (s.decSlot z) := by
  cases z <;> rfl

theorem encode_decSlot (z : Slot) : encode (Instr.decSlot z) = [opOf 0 z.code 5] := by
  cases z <;> rfl

theorem State.incSlot_writesSlot {s : State} (hs : s.mem.wf) (z : Slot) :
    let r := Alu.inc s.flags (s.readSlot z)
    WritesSlot s (s.incSlot z) z r.1 r.2 (s.pc + 1) :=
  (State.updateSlot_writesSlot hs z _).advance 1

theorem State.decSlot_writesSlot {s : State} (hs : s.mem.wf) (z : Slot) :
    let r := Alu.dec s.flags (s.readSlot z)
    WritesSlot s (s.decSlot z) z r.1 r.2 (s.pc + 1) :=
  (State.updateSlot_writesSlot hs z _).advance 1

/-- Settles O27: INC and DEC are one slot write of what `inc` and `dec` answer. -/
theorem incAndDecSlots : Obligations.IncAndDecSlots := by
  unfold Obligations.IncAndDecSlots
  intro s z hs
  have hinc := State.incSlot_writesSlot hs z
  have hdec := State.decSlot_writesSlot hs z
  rw [Alu.inc_eq] at hinc
  rw [Alu.dec_eq] at hdec
  exact ⟨encode_incSlot z, encode_decSlot z, ⟨s.incSlot z, exec_incSlot z s, hinc⟩,
    ⟨s.decSlot z, exec_decSlot z s, hdec⟩⟩

end Sys2Proof.Machine
end

section
/-! PROOFS. Absolute jumps (O33, R280 to R282). -/

namespace Sys2Proof.Machine

/-- A conditional jump changes `pc` only: to its target, or past the instruction (R281, R284). -/
theorem State.jumpIf_eq (s : State) (cc : Cond) (t n : Word) :
    s.jumpIf cc t n = { s with pc := if s.cond cc then t else s.pc + n } := by
  rw [State.jumpIf]
  split <;> rfl

theorem encode_jpCond (cc : Cond) (n : Word) :
    encode (Instr.jpCond cc n) = [opOf 3 (0#1 ++ cc.code) 2, loByte n, hiByte n] := by
  cases cc <;> rfl

theorem exec_jpCond (cc : Cond) (n : Word) (s : State) :
    exec (Instr.jpCond cc n) s = .next { s with pc := if s.cond cc then n else s.pc + 3 } := by
  rw [← State.jumpIf_eq]
  cases cc <;> rfl

/-- Settles O33: JP and JP (HL) are one write of `pc`, JP cc one that depends on the condition. -/
theorem absoluteJumps : Obligations.AbsoluteJumps := by
  unfold Obligations.AbsoluteJumps
  intro s cc n
  exact ⟨rfl, encode_jpCond cc n, rfl, rfl, exec_jpCond cc n s, rfl⟩

end Sys2Proof.Machine
end

section
/-! PROOFS. Calls (O35, R285, R286). -/

namespace Sys2Proof.Machine

/-- Jumping on both sides keeps a word store's frame (R145). -/
theorem StoresWord.jump {s t : State} {x v : Word} (h : StoresWord s t x v) (target : Word) :
    StoresWord (s.jump target) (t.jump target) x v := by
  obtain ⟨hregisters, hlow, hhigh, hothers⟩ := h
  exact ⟨congrArg (·.jump target) hregisters, hlow, hhigh, hothers⟩

/-- A call stores the address of the next instruction below `sp`, lowers `sp` by 2 and jumps, and does nothing else
(R285). -/
theorem State.call_storesWord {s : State} (hs : s.mem.wf) (t n : Word) :
    StoresWord { s with sp := s.sp - 2, pc := t } (s.call t n) (s.sp - 2) (s.pc + n) :=
  (State.push16_storesWord hs (s.pc + n)).jump t

theorem State.callIf_of_taken (s : State) {cc : Cond} (h : s.cond cc = true) (t : Word) :
    s.callIf cc t = s.call t 3 := if_pos h

/-- A call not taken pushes nothing (R286). -/
theorem State.callIf_of_not_taken (s : State) {cc : Cond} (h : ¬ s.cond cc = true) (t : Word) :
    s.callIf cc t = { s with pc := s.pc + 3 } := if_neg h

theorem encode_callCond (cc : Cond) (n : Word) :
    encode (Instr.callCond cc n) = [opOf 3 (0#1 ++ cc.code) 4, loByte n, hiByte n] := by
  cases cc <;> rfl

theorem exec_callCond (cc : Cond) (n : Word) (s : State) :
    exec (Instr.callCond cc n) s = .next (s.callIf cc n) := by
  cases cc <;> rfl

/-- CALL cc is CALL when its condition holds and changes `pc` only when it does not (R286). -/
theorem exec_callCond_cases {s : State} (hs : s.mem.wf) (cc : Cond) (n : Word) :
    if s.cond cc then
      ∃ t, exec (Instr.callCond cc n) s = .next t ∧
        StoresWord { s with sp := s.sp - 2, pc := n } t (s.sp - 2) (s.pc + 3)
    else exec (Instr.callCond cc n) s = .next { s with pc := s.pc + 3 } := by
  rw [exec_callCond]
  split
  case isTrue htaken =>
    exact ⟨s.call n 3, congrArg Host.Outcome.next (s.callIf_of_taken htaken n), State.call_storesWord hs n 3⟩
  case isFalse hnot => rw [s.callIf_of_not_taken hnot]

/-- Settles O35: a call taken is one word store below `sp` of the next address, one not taken one write of `pc`. -/
theorem callsPushTheReturnAddress : Obligations.CallsPushTheReturnAddress := by
  unfold Obligations.CallsPushTheReturnAddress
  intro s cc n hs
  exact ⟨rfl, encode_callCond cc n, ⟨s.call n 3, rfl, State.call_storesWord hs n 3⟩, exec_callCond_cases hs cc n⟩

end Sys2Proof.Machine
end

section
/-! PROOFS. Restarts (O38, R290). -/

namespace Sys2Proof.Machine

/-- Writing `ime` on both sides keeps a word store's frame. -/
theorem StoresWord.setIme {s t : State} {x v : Word} (h : StoresWord s t x v) (b : Bool) :
    StoresWord (s.setIme b) (t.setIme b) x v := by
  obtain ⟨hregisters, hlow, hhigh, hothers⟩ := h
  exact ⟨congrArg (·.setIme b) hregisters, hlow, hhigh, hothers⟩

/-- A restart is a one-byte call that also clears `ime` (R290). -/
theorem State.restart_storesWord {s : State} (hs : s.mem.wf) (t : Word) :
    StoresWord { s with sp := s.sp - 2, pc := t, ime := false } (s.restart t) (s.sp - 2) (s.pc + 1) :=
  (State.call_storesWord hs t 1).setIme false

theorem encode_rst (y : BitVec 3) : encode (Instr.rst y) = [opOf 3 y 7] := by
  decide +revert

/-- The eight restarts go to the multiples of 8 (R87, R290). -/
theorem exec_rst (y : BitVec 3) (s : State) :
    exec (Instr.rst y) s = .next (s.restart (BitVec.ofNat 16 (8 * y.toNat))) := by
  obtain ⟨⟨k, hk⟩⟩ := y
  interval_cases k <;> rfl

/-- Settles O38: a restart is one word store below `sp`, at the target its number gives. -/
theorem restartsCallTheirVector : Obligations.RestartsCallTheirVector := by
  unfold Obligations.RestartsCallTheirVector
  intro s y hs
  exact ⟨encode_rst y, s.restart (BitVec.ofNat 16 (8 * y.toNat)), exec_rst y s, State.restart_storesWord hs _⟩

end Sys2Proof.Machine
end

section
/-! PROOFS. The rows of the extended table are the cases of ExecExt (R320 to R331), and the PREFIX step that runs one of
them (O42, R143, R304). -/

namespace Sys2Proof.Machine

theorem exec_rotSlot (op : RotOp) (z : Slot) (s : State) :
    exec (Instr.rotSlot op z) s = .next (s.extRot Config.jgameboy op z) := by
  cases op <;> cases z <;> rfl

theorem exec_bitSlot (b : BitVec 3) (z : Slot) (s : State) :
    exec (Instr.bitSlot b z) s = .next (s.extBit b.toNat z) := by
  obtain ⟨⟨k, hk⟩⟩ := b
  interval_cases k <;> cases z <;> rfl

theorem exec_resSlot (b : BitVec 3) (z : Slot) (s : State) :
    exec (Instr.resSlot b z) s = .next (s.extRes b.toNat z) := by
  obtain ⟨⟨k, hk⟩⟩ := b
  interval_cases k <;> cases z <;> rfl

theorem exec_setSlot (b : BitVec 3) (z : Slot) (s : State) :
    exec (Instr.setSlot b z) s = .next (s.extSet b.toNat z) := by
  obtain ⟨⟨k, hk⟩⟩ := b
  interval_cases k <;> cases z <;> rfl

/-- The row of `op2` runs ExecExt(op2): the decoder's split of the extended table and that of R320 are the same, and
RECOGNISED_EXT holds every value (D25). -/
theorem exec_extendedRow (op2 : Byte) (s : State) :
    exec (extendedRow op2) s = .next (s.execExt Config.jgameboy op2) := by
  have hrecognised : ¬ Config.jgameboy.unhandledExt.contains op2 = true := Bool.false_ne_true
  rw [extendedRow, State.execExt, if_neg hrecognised]
  split_ifs
  · exact exec_rotSlot _ _ s
  · exact exec_bitSlot _ _ s
  · exact exec_resSlot _ _ s
  · exact exec_setSlot _ _ s

/-- PREFIX is ExecExt of the byte at `pc`, then `pc + 1` (R143, R304). -/
theorem exec_prefix_cb_eq (s : State) :
    exec .prefix_cb s = .next { s.execExt Config.jgameboy (s.readByte s.pc) with pc := s.pc + 1 } := by
  have hrow : exec .prefix_cb s = .next (s.prefixed Config.jgameboy) := rfl
  rw [hrow, State.prefixed, State.advance, State.execExt_pc]

/-- Settles O42: the state between is ExecExt of the byte at `pc`, which both the row and PREFIX run. -/
theorem prefixRunsTheRowOfItsOwnCell : Obligations.PrefixRunsTheRowOfItsOwnCell := by
  unfold Obligations.PrefixRunsTheRowOfItsOwnCell
  intro s
  exact ⟨rfl, s.execExt Config.jgameboy (s.readByte s.pc), exec_extendedRow _ s, s.execExt_pc _ _,
    exec_prefix_cb_eq s⟩

end Sys2Proof.Machine
end

section
/-! PROOFS. NOP and the illegal opcodes (O40, R300, R305). -/

namespace Sys2Proof.Machine

/-- Settles O40: NOP and the eleven illegal rows are all the same advance of `pc` by 1. -/
theorem nopAndIllegalOnlyAdvance : Obligations.NopAndIllegalOnlyAdvance := by
  unfold Obligations.NopAndIllegalOnlyAdvance
  intro s
  refine ⟨rfl, rfl, fun p hp => ?_⟩
  fin_cases hp <;> exact ⟨rfl, rfl⟩

end Sys2Proof.Machine
end

section
/-! PROOFS. The bit rows of the extended table: BIT reads one bit of its slot into Zero, RES and SET write one bit of it
back (O45, O46, R129, R130, R329 to R331). -/

namespace Sys2Proof.Machine

theorem encode_bitSlot (b : BitVec 3) (z : Slot) : encode (Instr.bitSlot b z) = [opOf 1 b z.code] := by
  cases z <;> decide +revert

theorem encode_resSlot (b : BitVec 3) (z : Slot) : encode (Instr.resSlot b z) = [opOf 2 b z.code] := by
  cases z <;> decide +revert

theorem encode_setSlot (b : BitVec 3) (z : Slot) : encode (Instr.setSlot b z) = [opOf 3 b z.code] := by
  cases z <;> decide +revert

namespace Alu

/-- What `testBit` answers, in the number of the byte (R129). -/
theorem testBit_eq (f : Flags) (v : Byte) (n : Nat) :
    testBit f v n = { z := decide (v.toNat / 2 ^ n % 2 = 0), c := f.c, h := false, n := false } := by
  have hz : (!v.getLsbD n) = decide (v.toNat / 2 ^ n % 2 = 0) := by
    rw [BitVec.getLsbD, Nat.testBit_eq_decide_div_mod_eq, ← decide_not]
    exact decide_eq_decide.mpr Nat.mod_two_not_eq_one
  rw [testBit, hz]

/-- `setBit` writes the bit of its number and keeps the other seven (R130). -/
theorem getLsbD_setBit (v : Byte) (n : Nat) (on : Bool) {m : Nat} (hm : m < 8) :
    (setBit v n on).getLsbD m = if m = n then on else v.getLsbD m := by
  have hmask : ((1 : Byte) <<< n).getLsbD m = decide (m = n) := by
    have htwoPow : (1 : Byte) <<< n = BitVec.twoPow 8 n := rfl
    rw [htwoPow, BitVec.getLsbD_twoPow, ← Bool.decide_and]
    exact decide_eq_decide.mpr (by omega)
  cases on
  case true =>
    rw [setBit, if_pos rfl, BitVec.getLsbD_or, hmask]
    by_cases h : m = n <;> simp [h]
  case false =>
    rw [setBit, if_neg Bool.false_ne_true, BitVec.getLsbD_and, BitVec.getLsbD_not, hmask]
    by_cases h : m = n <;> simp [h, hm]

end Alu

/-- Settles O45: BIT is one write of the flags, which `testBit` gives. -/
theorem extendedBitTest : Obligations.ExtendedBitTest := by
  unfold Obligations.ExtendedBitTest
  intro s b z
  refine ⟨encode_bitSlot b z, ?exec⟩
  case exec => rw [exec_bitSlot, State.extBit, State.setFlags, Alu.testBit_eq]

/-- Settles O46: RES and SET are one slot write of what `setBit` answers, which differs from the slot in bit `b` only. -/
theorem extendedBitResetAndSet : Obligations.ExtendedBitResetAndSet := by
  unfold Obligations.ExtendedBitResetAndSet
  intro s b z hs
  refine ⟨encode_resSlot b z, encode_setSlot b z, ?res, ?set⟩
  case res =>
    exact ⟨s.extRes b.toNat z, Alu.setBit (s.readSlot z) b.toNat false, exec_resSlot b z s,
      State.writeSlot_writesSlot hs z _, fun _ => Alu.getLsbD_setBit _ _ _⟩
  case set =>
    exact ⟨s.extSet b.toNat z, Alu.setBit (s.readSlot z) b.toNat true, exec_setSlot b z s,
      State.writeSlot_writesSlot hs z _, fun _ => Alu.getLsbD_setBit _ _ _⟩

end Sys2Proof.Machine
end

section
/-! PROOFS. The decoders read back what the encoder writes (O49, R88, R90, R91). -/

namespace Sys2Proof

/-- Every instruction decodes from its encoding, in its own table: the rows with a word operand join its two bytes again,
every other row reads its bytes as they stand. -/
theorem roundTrip (i : Instr) : Laws.RoundTrip.Statement i := by
  cases i
  case ld_bc_d16 n => exact Laws.RoundTrip.ld_bc_d16 n
  case ld_de_d16 n => exact Laws.RoundTrip.ld_de_d16 n
  case ld_hl_d16 n => exact Laws.RoundTrip.ld_hl_d16 n
  case ld_sp_d16 n => exact Laws.RoundTrip.ld_sp_d16 n
  case ld_ma16_sp n => exact Laws.RoundTrip.ld_ma16_sp n
  case ld_ma16_a n => exact Laws.RoundTrip.ld_ma16_a n
  case ld_a_ma16 n => exact Laws.RoundTrip.ld_a_ma16 n
  case jp_a16 n => exact Laws.RoundTrip.jp_a16 n
  case jp_nz_a16 n => exact Laws.RoundTrip.jp_nz_a16 n
  case jp_z_a16 n => exact Laws.RoundTrip.jp_z_a16 n
  case jp_nc_a16 n => exact Laws.RoundTrip.jp_nc_a16 n
  case jp_c_a16 n => exact Laws.RoundTrip.jp_c_a16 n
  case call_a16 n => exact Laws.RoundTrip.call_a16 n
  case call_nz_a16 n => exact Laws.RoundTrip.call_nz_a16 n
  case call_z_a16 n => exact Laws.RoundTrip.call_z_a16 n
  case call_nc_a16 n => exact Laws.RoundTrip.call_nc_a16 n
  case call_c_a16 n => exact Laws.RoundTrip.call_c_a16 n
  all_goals exact fun _ => rfl

/-- Settles O49: the table a well-formed instruction is decoded in is its own. -/
theorem decodeInvertsEncode : Obligations.DecodeInvertsEncode := by
  unfold Obligations.DecodeInvertsEncode
  rintro t i rfl rest
  exact roundTrip i rest

end Sys2Proof
end

section
/-! PROOFS. What the decoders answer: every opcode byte has a row, in each table, whose instruction encodes to the bytes
it was read from (O47, O48, O50, O52, O53), and the order of dispatch under any parameters (O51, R89, R93). -/

namespace Sys2Proof

open Sys2Proof.Machine

/-- The instruction a row of the primary table completes with the operand byte `n` or the operand word `w` (R82). -/
def Form.instr : Form → Byte → Word → Instr
  | .f0 i, _, _ => i
  | .f1 k, n, _ => k n
  | .f2 k, n, _ => k n
  | .f3 k, _, w => k w

/-- The operand bytes of a row's format, low byte first (R82, R88). -/
def Form.operands : Form → Byte → Word → List Byte
  | .f0 _, _, _ => []
  | .f1 _, n, _ => [n]
  | .f2 _, n, _ => [n]
  | .f3 _, _, w => [loByte w, hiByte w]

/-- A byte is the byte of one of the 256 numbers below 2^8. -/
theorem exists_byte_eq_ofNat (v : Byte) : ∃ k < 256, v = BitVec.ofNat 8 k :=
  ⟨v.toNat, v.isLt, by rw [BitVec.ofNat_toNat, BitVec.setWidth_eq]⟩

/-- Every opcode byte has a row in the primary table, whose instruction encodes to that byte and its operands (R90,
R93). -/
theorem primaryRow_encode (op : Byte) : ∃ form, primaryRow Config.jgameboy op = some form ∧
    ∀ n w, encode (form.instr n w) = op :: form.operands n w ∧ (form.instr n w).table = .primary := by
  obtain ⟨k, hk, rfl⟩ := exists_byte_eq_ofNat op
  interval_cases k
  all_goals
    refine ⟨_, rfl, fun n w => ?_⟩
    exact ⟨rfl, rfl⟩

/-- Every byte has a row in the extended table, which encodes to it (R91). -/
theorem extendedRow_encode (op2 : Byte) : encode (extendedRow op2) = [op2] ∧ (extendedRow op2).table = .extended := by
  obtain ⟨k, hk, rfl⟩ := exists_byte_eq_ofNat op2
  interval_cases k <;> exact ⟨rfl, rfl⟩

theorem decode_of_primaryRow_f0 {c : Config} {op : Byte} {i : Instr} (h : primaryRow c op = some (.f0 i))
    (rest : List Byte) : decode c (op :: rest) = .ok (i, rest) := by
  simp only [decode, h]

theorem decode_of_primaryRow_none {c : Config} {op : Byte} (h : primaryRow c op = none) (rest : List Byte) :
    decode c (op :: rest) = .error (.unhandled op) := by
  simp only [decode, h]

/-- A row takes its operand bytes from the two that follow the opcode and leaves the others (R88). -/
theorem decode_of_primaryRow {c : Config} {op : Byte} {form : Form} (h : primaryRow c op = some form) (n m : Byte) :
    ∃ rest, decode c [op, n, m] = .ok (form.instr n (wordOf m n), rest) ∧
      form.operands n (wordOf m n) ++ rest = [n, m] := by
  simp only [decode, h]
  cases form
  case f0 => exact ⟨[n, m], rfl, rfl⟩
  case f1 => exact ⟨[m], rfl, rfl⟩
  case f2 => exact ⟨[m], rfl, rfl⟩
  case f3 => exact ⟨[], rfl, by rw [Form.operands, loByte_wordOf, hiByte_wordOf]; rfl⟩

/-- RECOGNISED_EXT holds every value, so the extended decoder answers the row of its byte (R93, D25). -/
theorem decodeExt_eq (op2 : Byte) (rest : List Byte) :
    decodeExt Config.jgameboy (op2 :: rest) = .ok (extendedRow op2, rest) := rfl

/-- Settles O50: the row of the first byte takes its operands from the next two. -/
theorem decodingIsTotalAndFaithful : Obligations.DecodingIsTotalAndFaithful := by
  unfold Obligations.DecodingIsTotalAndFaithful
  intro t op n m
  cases t
  case primary =>
    obtain ⟨form, hrow, hencode⟩ := primaryRow_encode op
    obtain ⟨rest, hdecode, hoperands⟩ := decode_of_primaryRow hrow n m
    obtain ⟨hbytes, htable⟩ := hencode n (wordOf m n)
    exact ⟨_, rest, hdecode, htable, by rw [hbytes, List.cons_append, hoperands]⟩
  case extended =>
    obtain ⟨hbytes, htable⟩ := extendedRow_encode op
    exact ⟨extendedRow op, [n, m], decodeExt_eq op [n, m], htable, by rw [hbytes]; rfl⟩

/-- Settles O47: the row of `op2` runs ExecExt(op2), which leaves `pc` alone. -/
theorem execExtRunsTheDecodedRow : Obligations.ExecExtRunsTheDecodedRow := by
  unfold Obligations.ExecExtRunsTheDecodedRow
  intro op2 s rest
  exact ⟨extendedRow op2, decodeExt_eq op2 rest, (extendedRow_encode op2).1, exec_extendedRow op2 s,
    s.execExt_pc _ op2⟩

/-- Settles O48, by evaluating the decoders. -/
theorem decodingSampleWords : Obligations.DecodingSampleWords := by
  unfold Obligations.DecodingSampleWords
  exact ⟨rfl, rfl, rfl, rfl, rfl, rfl, rfl, rfl, rfl, rfl, rfl, rfl⟩

/-- Settles O52: fetch decodes those three bytes. -/
theorem stepRunsTheDecodedInstruction : Obligations.StepRunsTheDecodedInstruction := by
  unfold Obligations.StepRunsTheDecodedInstruction
  intro s i rest hrunning hdecode
  exact step_of_fetch hrunning (State.fetch_of_decode hdecode)

/-- Fetch answers an instruction of the primary table in every state, and the byte at `pc` is the first of its encoding
(R142, R93). -/
theorem Machine.State.fetch_total (s : State) : ∃ i tail, s.fetch = some i ∧ WellFormed .primary i ∧
    encode i = s.readByte s.pc :: tail := by
  obtain ⟨form, hrow, hencode⟩ := primaryRow_encode (s.readByte s.pc)
  obtain ⟨rest, hdecode, -⟩ := decode_of_primaryRow hrow (s.readByte (s.pc + 1)) (s.readByte (s.pc + 2))
  obtain ⟨hbytes, htable⟩ := hencode (s.readByte (s.pc + 1)) _
  exact ⟨_, _, State.fetch_of_decode hdecode, htable, hbytes⟩

/-- Settles O53: fetch answers an instruction in every state, and every instruction completes. -/
theorem stepsCompleteExactlyWhileRunning : Obligations.StepsCompleteExactlyWhileRunning := by
  unfold Obligations.StepsCompleteExactlyWhileRunning
  intro s
  refine ⟨fun hrunning => ?running, fun hended => ?ended⟩
  case running =>
    obtain ⟨i, -, hfetch, hwf, -⟩ := s.fetch_total
    obtain ⟨t, hexec⟩ := exec_total i s
    exact ⟨i, t, hfetch, hwf, hexec, (step_of_fetch hrunning hfetch).trans hexec⟩
  case ended => rw [step, hended, if_neg Bool.false_ne_true]

/-! ## The order of dispatch -/

theorem Slot.ofCode_code (z : Slot) : Slot.ofCode z.code = z := by cases z <;> rfl

theorem AluOp.ofCode_code (op : AluOp) : AluOp.ofCode op.code = op := by cases op <;> rfl

theorem fieldX_opOf (x : BitVec 2) (y z : BitVec 3) : fieldX (opOf x y z) = x := by decide +revert

theorem fieldY_opOf (x : BitVec 2) (y z : BitVec 3) : fieldY (opOf x y z) = y := by decide +revert

theorem fieldZ_opOf (x : BitVec 2) (y z : BitVec 3) : fieldZ (opOf x y z) = z := by decide +revert

/-- Each of the eleven illegal values has a row of its own, which does what an unhandled opcode does (R92, R305). -/
theorem illegalRow_of_mem {op : Byte} (h : op ∈ Config.illegalOpcodes) :
    ∃ i, illegalRow op = some (.f0 i) ∧ encode i = [op] ∧ ∀ s, exec i s = .next s.unhandled := by
  rw [Config.illegalOpcodes] at h
  fin_cases h <;> exact ⟨_, rfl, rfl, fun _ => rfl⟩

/-- No other value has one (R92). -/
theorem illegalRow_of_not_mem {op : Byte} (h : op ∉ Config.illegalOpcodes) : illegalRow op = none := by
  rw [illegalRow]
  split
  case h_12 => rfl
  all_goals
    next hop =>
      have hvalue := congrArg (BitVec.ofNat 8) hop
      rw [BitVec.ofNat_toNat, BitVec.setWidth_eq] at hvalue
      exact absurd h (by rw [hvalue]; decide)

section
variable {c : Config} {op : Byte}

theorem primaryRow_prefix (h : op = c.prefixOp) : primaryRow c op = some (.f0 .prefix_cb) := by
  rw [primaryRow, if_pos h]

variable (hprefix : op ≠ c.prefixOp)
include hprefix

theorem primaryRow_illegal (h : op ∈ c.illegalSet) : primaryRow c op = illegalRow op := by
  rw [primaryRow, if_neg hprefix, if_pos (List.contains_iff_mem.mpr h)]

variable (hlegal : op ∉ c.illegalSet)
include hlegal

theorem primaryRow_unhandled (h : op ∈ c.unhandledPrimary) : primaryRow c op = none := by
  rw [primaryRow, if_neg hprefix, if_neg (mt List.contains_iff_mem.mp hlegal),
    if_pos (List.contains_iff_mem.mpr h)]

variable (hrecognised : op ∉ c.unhandledPrimary)
include hrecognised

theorem primaryRow_ldBand {dst src : Slot} (h : op = opOf 1 dst.code src.code) :
    primaryRow c op = some (.f0 (Instr.ldBand dst src)) := by
  rw [primaryRow, if_neg hprefix, if_neg (mt List.contains_iff_mem.mp hlegal),
    if_neg (mt List.contains_iff_mem.mp hrecognised), h, fieldX_opOf, if_pos rfl, fieldY_opOf, fieldZ_opOf,
    Slot.ofCode_code, Slot.ofCode_code]

theorem primaryRow_aluBand {o : AluOp} {z : Slot} (h : op = opOf 2 o.code z.code) :
    primaryRow c op = some (.f0 (Instr.aluBand o z)) := by
  rw [primaryRow, if_neg hprefix, if_neg (mt List.contains_iff_mem.mp hlegal),
    if_neg (mt List.contains_iff_mem.mp hrecognised), h, fieldX_opOf, if_neg (by decide), if_pos rfl, fieldY_opOf,
    fieldZ_opOf, AluOp.ofCode_code, Slot.ofCode_code]

end

/-- Settles O51: each clause is one branch of the table's dispatch. -/
theorem dispatchOrder : Obligations.DispatchOrder := by
  unfold Obligations.DispatchOrder
  intro c op rest
  refine ⟨fun h => ?prefixed, fun hprefix h => ?illegal, fun hprefix hlegal h => ?unhandled,
    fun hprefix hlegal hrecognised => ⟨fun dst src h => ?load, fun o z h => ?alu⟩⟩
  case prefixed => exact decode_of_primaryRow_f0 (primaryRow_prefix h) rest
  case illegal =>
    have hrow := primaryRow_illegal hprefix h
    by_cases hmem : op ∈ Config.illegalOpcodes
    · obtain ⟨i, hi, hencode, hexec⟩ := illegalRow_of_mem hmem
      exact .inl ⟨hmem, i, decode_of_primaryRow_f0 (hrow.trans hi) rest, hencode, hexec⟩
    · exact .inr ⟨hmem, decode_of_primaryRow_none (hrow.trans (illegalRow_of_not_mem hmem)) rest⟩
  case unhandled => exact decode_of_primaryRow_none (primaryRow_unhandled hprefix hlegal h) rest
  case load => exact decode_of_primaryRow_f0 (primaryRow_ldBand hprefix hlegal hrecognised h) rest
  case alu => exact decode_of_primaryRow_f0 (primaryRow_aluBand hprefix hlegal hrecognised h) rest

end Sys2Proof
end

section
/-! PROOFS. What an instruction can do: each of the 512 meanings is one of some forty operations. The claims over every
instruction (O54 to O59) split along these. -/

namespace Sys2Proof.Machine

/-- Changes of the three bits that almost nothing reads: the latch `ime` and the flags HalfCarry and Negate. -/
structure BitMap where
  ime : Bool → Bool
  h : Bool → Bool
  n : Bool → Bool

/-- The state with those three bits changed. -/
def State.mapBits (s : State) (m : BitMap) : State :=
  { s with ime := m.ime s.ime, flags := { s.flags with h := m.h s.flags.h, n := m.n s.flags.n } }

/-- A value computed from the state without those three bits. -/
def IgnoresBits {α : Type} (x : State → α) : Prop := ∀ (s : State) (m : BitMap), x (s.mapBits m) = x s

/-- The operation that `i` performs, with what later claims need of `i`: which instruction it is where the operation
stores or writes a latch, and that no operand is computed from the three bits above. -/
inductive Performs (i : Instr) : (State → State) → Prop
  | advance (n : Word) : Performs i fun s => s.advance n
  | illegal : Performs i fun s => s.illegal
  | op10 : Performs i fun s => s.op10 Config.jgameboy
  | daa (hi : i = .daa) : Performs i fun s => (s.setRunning false).advance 1
  | setIme (v : Bool) (hi : i = if v then .ei else .di) : Performs i fun s => (s.setIme v).advance 1
  | prefixed (hi : i = .prefix_cb) : Performs i fun s => s.prefixed Config.jgameboy
  | loadSlot (dst src : Slot) (hi : i = Instr.ldBand dst src) : Performs i fun s => s.loadSlot dst src
  | op76 (hi : i = .ld_mhl_mhl) : Performs i fun s => s.op76 Config.jgameboy
  | loadImm (dst : Slot) (n : Byte) (hi : i = Instr.ldImm dst n) : Performs i fun s => s.loadImm dst n
  | loadA (x : State → Word) (n : Word) (hx : IgnoresBits x) : Performs i fun s => s.loadA (x s) n
  | loadAThenHL (x v : State → Word) (n : Word) (hx : IgnoresBits x) (hv : IgnoresBits v) :
      Performs i fun s => (s.loadA (x s) n).setHL (v s)
  | storeA (x : State → Word) (n : Word) (hx : IgnoresBits x) (hi : ∀ s, storeAddrs i s = [x s]) :
      Performs i fun s => s.storeA (x s) n
  | storeAThenHL (x v : State → Word) (n : Word) (hx : IgnoresBits x) (hv : IgnoresBits v)
      (hi : ∀ s, storeAddrs i s = [x s]) : Performs i fun s => (s.storeA (x s) n).setHL (v s)
  | setPair (p : Pair) (v : State → Word) (n : Word) (hv : IgnoresBits v) :
      Performs i fun s => (s.setPair p (v s)).advance n
  | setSP (v : State → Word) (n : Word) (hv : IgnoresBits v) : Performs i fun s => (s.setSP (v s)).advance n
  | storeSP (x : Word) (hi : i = .ld_ma16_sp x) : Performs i fun s => (s.writeWord x s.sp).advance 3
  | loadHLSP (n : Byte) : Performs i fun s => s.loadHLSP n
  | addSP (n : Byte) : Performs i fun s => s.addSP n
  | addHL (p : Pair) : Performs i fun s => s.addHL p
  | pushPair (p : StackPair) (hi : i = Instr.push p) : Performs i fun s => s.pushPair p
  | popPair (p : StackPair) : Performs i fun s => s.popPair p
  | aluSlot (op : AluOp) (z : Slot) : Performs i fun s => s.aluSlot Config.jgameboy op z
  | aluImm (op : AluOp) (n : Byte) : Performs i fun s => s.aluImm Config.jgameboy op n
  | incSlot (z : Slot) (hi : i = Instr.incSlot z) : Performs i fun s => s.incSlot z
  | decSlot (z : Slot) (hi : i = Instr.decSlot z) : Performs i fun s => s.decSlot z
  | rotA (op : RotOp) : Performs i fun s => s.rotA Config.jgameboy op
  | cpl : Performs i fun s =>
      ((s.setReg .a (s.a ^^^ 0xFF)).setFlags { s.flags with h := true, n := true }).advance 1
  | scf : Performs i fun s => (s.setFlags { s.flags with c := true, h := false, n := false }).advance 1
  | ccf : Performs i fun s => (s.setFlags { s.flags with c := !s.flags.c, h := false, n := false }).advance 1
  | jump (x : State → Word) (hx : IgnoresBits x) : Performs i fun s => s.jump (x s)
  | jumpIf (cc : Cond) (x : State → Word) (n : Word) (hx : IgnoresBits x) :
      Performs i fun s => s.jumpIf cc (x s) n
  | call (x : Word) (hi : i = .call_a16 x) : Performs i fun s => s.call x 3
  | callIf (cc : Cond) (x : Word) (hi : i = Instr.callCond cc x) : Performs i fun s => s.callIf cc x
  | restart (x : Word) (y : BitVec 3) (hi : i = Instr.rst y) : Performs i fun s => s.restart x
  | ret : Performs i fun s => s.ret
  | reti (hi : i = .reti) : Performs i fun s => s.ret.setIme true
  | retIf (cc : Cond) (hi : i = Instr.retCond cc) : Performs i fun s => s.retIf Config.jgameboy cc
  | extRot (op : RotOp) (z : Slot) (hi : i = Instr.rotSlot op z) :
      Performs i fun s => s.extRot Config.jgameboy op z
  | extBit (b : Nat) (z : Slot) : Performs i fun s => s.extBit b z
  | extRes (b : Nat) (z : Slot) (hi : i = Instr.resSlot (BitVec.ofNat 3 b) z) : Performs i fun s => s.extRes b z
  | extSet (b : Nat) (z : Slot) (hi : i = Instr.setSlot (BitVec.ofNat 3 b) z) : Performs i fun s => s.extSet b z

/-- Every instruction performs one of the operations: the one its meaning calls by name, which unification reads off
together with its operands. The restarts give their number by hand, since their meanings hold the target. -/
theorem exec_performs (i : Instr) : ∃ f, Performs i f ∧ ∀ s, exec i s = .next (f s) := by
  cases i
  case rst_00h => exact ⟨_, .restart 0x00 0 rfl, fun _ => rfl⟩
  case rst_08h => exact ⟨_, .restart 0x08 1 rfl, fun _ => rfl⟩
  case rst_10h => exact ⟨_, .restart 0x10 2 rfl, fun _ => rfl⟩
  case rst_18h => exact ⟨_, .restart 0x18 3 rfl, fun _ => rfl⟩
  case rst_20h => exact ⟨_, .restart 0x20 4 rfl, fun _ => rfl⟩
  case rst_28h => exact ⟨_, .restart 0x28 5 rfl, fun _ => rfl⟩
  case rst_30h => exact ⟨_, .restart 0x30 6 rfl, fun _ => rfl⟩
  case rst_38h => exact ⟨_, .restart 0x38 7 rfl, fun _ => rfl⟩
  all_goals
    refine ⟨_, ?_, fun _ => rfl⟩
    with_reducible constructor
  all_goals
    repeat intro
    rfl

end Sys2Proof.Machine
end

section
/-! PROOFS. What every step keeps of memory's form and of the byte contents (O54, O59). -/

namespace Sys2Proof.Machine

/-- A step that answers a next state performs one operation, that of an instruction whose encoding begins with the byte at
`pc` (R141). -/
theorem step_performs {s t : State} (h : step s = .next t) : ∃ i f tail, Performs i f ∧ t = f s ∧
    encode i = s.readByte s.pc :: tail := by
  obtain ⟨i, tail, hfetch, -, hencode⟩ := s.fetch_total
  obtain ⟨f, hperforms, hexec⟩ := exec_performs i
  rw [step_of_fetch (running_of_step h) hfetch, hexec] at h
  injection h with ht
  exact ⟨i, f, tail, hperforms, ht.symm, hencode⟩

/-- Every operation keeps memory canonical: those that store do by the rule of their store, the others leave memory as
it is. -/
theorem Performs.mem_wf {i : Instr} {f : State → State} (h : Performs i f) {s : State} (hs : s.mem.wf) :
    (f s).mem.wf := by
  cases h
  case prefixed => exact State.prefixed_wf hs _
  case loadSlot dst src _ => exact State.loadSlot_wf hs dst src
  case op76 => exact State.op76_wf hs _
  case loadImm dst n _ => exact State.loadImm_wf hs dst n
  case storeA x n _ _ => exact State.storeA_wf hs (x s) n
  case storeAThenHL x v n _ _ _ => exact State.storeA_wf hs (x s) n
  case storeSP x _ => exact State.writeWord_wf hs x s.sp
  case pushPair p _ => exact State.pushPair_wf hs p
  case incSlot z _ => exact State.incSlot_wf hs z
  case decSlot z _ => exact State.decSlot_wf hs z
  case call x _ => exact State.call_wf hs x 3
  case callIf cc x _ => exact State.callIf_wf hs cc x
  case restart x _ _ => exact State.restart_wf hs x
  case extRot op z _ => exact State.extRot_wf hs _ op z
  case extRes b z _ => exact State.extRes_wf hs b z
  case extSet b z _ => exact State.extSet_wf hs b z
  all_goals simpa using hs

/-- Settles O54: a step is one operation, which keeps the form. -/
theorem stepsKeepCanonicalMemory : Obligations.StepsKeepCanonicalMemory := by
  unfold Obligations.StepsKeepCanonicalMemory
  intro s t hs hstep
  obtain ⟨i, f, tail, hperforms, rfl, -⟩ := step_performs hstep
  exact hperforms.mem_wf hs

/-! ## The addresses a store can reach -/

section
variable (s : State)

theorem storeAddrs_ldBand_mhl (src : Slot) : storeAddrs (Instr.ldBand .mhl src) s = [s.hl] := by
  cases src <;> rfl

theorem storeAddrs_ldImm_mhl (n : Byte) : storeAddrs (Instr.ldImm .mhl n) s = [s.hl] := rfl

theorem storeAddrs_incSlot_mhl : storeAddrs (Instr.incSlot .mhl) s = [s.hl] := rfl

theorem storeAddrs_decSlot_mhl : storeAddrs (Instr.decSlot .mhl) s = [s.hl] := rfl

theorem storeAddrs_rotSlot_mhl (op : RotOp) : storeAddrs (Instr.rotSlot op .mhl) s = [s.hl] := by
  cases op <;> rfl

theorem storeAddrs_resSlot_mhl (b : BitVec 3) : storeAddrs (Instr.resSlot b .mhl) s = [s.hl] := by
  obtain ⟨⟨k, hk⟩⟩ := b
  interval_cases k <;> rfl

theorem storeAddrs_setSlot_mhl (b : BitVec 3) : storeAddrs (Instr.setSlot b .mhl) s = [s.hl] := by
  obtain ⟨⟨k, hk⟩⟩ := b
  interval_cases k <;> rfl

theorem storeAddrs_push (p : StackPair) : storeAddrs (Instr.push p) s = [s.sp - 1, s.sp - 2] := by
  cases p <;> rfl

theorem storeAddrs_rst (y : BitVec 3) : storeAddrs (Instr.rst y) s = [s.sp - 1, s.sp - 2] := by
  obtain ⟨⟨k, hk⟩⟩ := y
  interval_cases k <;> rfl

theorem storeAddrs_callCond (cc : Cond) (n : Word) :
    storeAddrs (Instr.callCond cc n) s = if s.cond cc then [s.sp - 1, s.sp - 2] else [] := by
  cases cc <;> rfl

/-- A state reads as another of the same memory. -/
theorem State.readByte_eq_of_mem_eq {s t : State} (h : t.mem = s.mem) (x : Word) : t.readByte x = s.readByte x := by
  rw [State.readByte, State.readByte, h]

end

/-- An address outside a list of one. -/
theorem ne_of_not_mem_eq {x a : Word} {l : List Word} (hl : l = [a]) (hx : x ∉ l) : x ≠ a :=
  fun h => hx (hl ▸ List.mem_singleton.mpr h)

/-- An address outside a list of two. -/
theorem ne_and_ne_of_not_mem_eq {x a b : Word} {l : List Word} (hl : l = [a, b]) (hx : x ∉ l) : x ≠ a ∧ x ≠ b := by
  simpa [hl] using hx

/-- An operation changes no byte outside the addresses its instruction stores to. -/
theorem Performs.readByte {i : Instr} {f : State → State} (h : Performs i f) {s : State} {x : Word}
    (hx : x ∉ storeAddrs i s) : (f s).readByte x = s.readByte x := by
  cases h
  case prefixed hi =>
    subst hi
    refine s.execExt_readByte _ _ x fun hz hrow => ?_
    exact ne_of_not_mem_eq (if_pos ⟨hz, hrow⟩) hx
  case loadSlot dst src hi =>
    subst hi
    exact s.loadSlot_readByte dst src x fun hdst => ne_of_not_mem_eq (storeAddrs_ldBand_mhl s src) (hdst ▸ hx)
  case op76 hi =>
    subst hi
    exact s.op76_readByte _ x (ne_of_not_mem_eq rfl hx)
  case loadImm dst n hi =>
    subst hi
    exact s.loadImm_readByte dst n x fun hdst => ne_of_not_mem_eq (storeAddrs_ldImm_mhl s n) (hdst ▸ hx)
  case storeA a n _ hi => exact s.storeA_readByte (a s) n x (ne_of_not_mem_eq (hi s) hx)
  case storeAThenHL a v n _ _ hi => exact s.storeA_readByte (a s) n x (ne_of_not_mem_eq (hi s) hx)
  case storeSP a hi =>
    subst hi
    obtain ⟨hlow, hhigh⟩ := ne_and_ne_of_not_mem_eq rfl hx
    exact s.writeWord_readByte a s.sp x hlow hhigh
  case pushPair p hi =>
    subst hi
    obtain ⟨hhigh, hlow⟩ := ne_and_ne_of_not_mem_eq (storeAddrs_push s p) hx
    exact s.pushPair_readByte p x hhigh hlow
  case incSlot z hi =>
    subst hi
    exact s.incSlot_readByte z x fun hz => ne_of_not_mem_eq (storeAddrs_incSlot_mhl s) (hz ▸ hx)
  case decSlot z hi =>
    subst hi
    exact s.decSlot_readByte z x fun hz => ne_of_not_mem_eq (storeAddrs_decSlot_mhl s) (hz ▸ hx)
  case call a hi =>
    subst hi
    obtain ⟨hhigh, hlow⟩ := ne_and_ne_of_not_mem_eq rfl hx
    exact s.call_readByte a 3 x hhigh hlow
  case callIf cc a hi =>
    subst hi
    refine s.callIf_readByte cc a x fun hcond => ?_
    exact ne_and_ne_of_not_mem_eq ((storeAddrs_callCond s cc a).trans (if_pos hcond)) hx
  case restart a y hi =>
    subst hi
    obtain ⟨hhigh, hlow⟩ := ne_and_ne_of_not_mem_eq (storeAddrs_rst s y) hx
    exact s.restart_readByte a x hhigh hlow
  case extRot op z hi =>
    subst hi
    exact s.extRot_readByte _ op z x fun hz => ne_of_not_mem_eq (storeAddrs_rotSlot_mhl s op) (hz ▸ hx)
  case extRes b z hi =>
    subst hi
    exact s.extRes_readByte b z x fun hz => ne_of_not_mem_eq (storeAddrs_resSlot_mhl s _) (hz ▸ hx)
  case extSet b z hi =>
    subst hi
    exact s.extSet_readByte b z x fun hz => ne_of_not_mem_eq (storeAddrs_setSlot_mhl s _) (hz ▸ hx)
  all_goals exact State.readByte_eq_of_mem_eq (by simp) x

/-- Settles O59: every instruction performs one operation, which stores at those addresses only. -/
theorem memoryFrameOfEveryInstruction : Obligations.MemoryFrameOfEveryInstruction := by
  unfold Obligations.MemoryFrameOfEveryInstruction
  intro i s t hexec x hx
  obtain ⟨f, hperforms, hf⟩ := exec_performs i
  rw [hf] at hexec
  injection hexec with ht
  rw [← ht]
  exact hperforms.readByte hx

end Sys2Proof.Machine
end

section
/-! PROOFS. Returns (O36, O37, R287 to R289), and a call followed by a return (O39). -/

namespace Sys2Proof.Machine

/-- A return gives `pc` the word at `sp` and raises `sp` by 2 (R287). -/
theorem State.ret_eq (s : State) : s.ret = { s with pc := s.topWord, sp := s.sp + 2 } := by
  rw [State.ret, State.dropWord_eq]
  rfl

/-- Settles O36: RET is one return, RETI the same with `ime` set. -/
theorem returnsPopThePc : Obligations.ReturnsPopThePc := by
  unfold Obligations.ReturnsPopThePc
  intro s
  exact ⟨rfl, rfl, congrArg Host.Outcome.next s.ret_eq, congrArg (fun t : State => Host.Outcome.next (t.setIme true)) s.ret_eq⟩

/-- A conditional return pops `pc` or goes on to the next instruction, and in both cases writes `ime` by whether it is
one that clears it (R288). -/
theorem State.retIf_eq (s : State) (c : Config) (cc : Cond) : s.retIf c cc =
    let ime' := if s.retClearsIme c cc then false else s.ime
    if s.cond cc then { s with pc := s.topWord, sp := s.sp + 2, ime := ime' }
    else { s with pc := s.pc + 1, ime := ime' } := by
  simp only [State.retIf, State.ret_eq]
  split_ifs <;> rfl

/-- Which conditional return clears `ime`, and when, is as the two open parameters say (R288, D17). -/
theorem State.retClearsIme_iff (s : State) (cc : Cond) : s.retClearsIme Config.jgameboy cc = true ↔
    cc = Config.openRetccImeClear ∧ (s.cond cc = true ∨ Config.openRetccWhen = .always) := by
  rw [State.retClearsIme, Bool.and_eq_true_iff, Bool.or_eq_true_iff, beq_iff_eq, beq_iff_eq]
  rfl

theorem encode_retCond (cc : Cond) : encode (Instr.retCond cc) = [opOf 3 (0#1 ++ cc.code) 0] := by
  cases cc <;> rfl

theorem exec_retCond (cc : Cond) (s : State) :
    exec (Instr.retCond cc) s = .next (s.retIf Config.jgameboy cc) := by
  cases cc <;> rfl

/-- Settles O37, by what a conditional return does and when it clears `ime`. -/
theorem conditionalReturns : Obligations.ConditionalReturns := by
  unfold Obligations.ConditionalReturns
  intro s cc
  refine ⟨encode_retCond cc, ?_⟩
  rw [exec_retCond, State.retIf_eq]
  simp only [State.retClearsIme_iff]
  rfl

/-- Settles O39: the word RET pops is the address CALL pushed, and `sp` comes back. -/
theorem callThenReturnComesBack : Obligations.CallThenReturnComesBack := by
  unfold Obligations.CallThenReturnComesBack
  intro s n hs
  have htop : (s.call n 3).topWord = s.pc + 3 := State.push16_topWord hs (s.pc + 3)
  refine ⟨s.call n 3, (s.call n 3).ret, rfl, rfl, rfl, ?_⟩
  rw [State.ret_eq, htop, State.call, State.push16_eq]
  simp [State.jump]

end Sys2Proof.Machine
end

section
/-! PROOFS. What a step writes to the latches (O55, O56). -/

namespace Sys2Proof.Machine

/-- An instruction of the primary table that is one byte long is fetched where its byte stands. -/
theorem State.fetch_of_encode {s : State} {i : Instr} (hwf : WellFormed .primary i)
    (h : encode i = [s.readByte s.pc]) : s.fetch = some i := by
  have hround := roundTrip i [s.readByte (s.pc + 1), s.readByte (s.pc + 2)]
  rw [show i.table = .primary from hwf, h] at hround
  exact State.fetch_of_decode hround

/-- A running state steps by the one-byte instruction of the primary table that stands at `pc`. -/
theorem step_of_encode {s : State} {i : Instr} (hrunning : s.running = true) (hwf : WellFormed .primary i)
    (h : encode i = [s.readByte s.pc]) : step s = exec i s :=
  step_of_fetch hrunning (State.fetch_of_encode hwf h)

/-- A step that answers a next state has run the instruction that stands at `pc`. -/
theorem exec_of_step {s t : State} {i : Instr} (h : step s = .next t) (hwf : WellFormed .primary i)
    (hencode : encode i = [s.readByte s.pc]) : exec i s = .next t :=
  (step_of_encode (running_of_step h) hwf hencode).symm.trans h

/-- Only DAA writes `running` (R254, D15, D16). -/
theorem Performs.running {i : Instr} {f : State → State} (h : Performs i f) (s : State) :
    (f s).running = s.running ∨ i = .daa := by
  cases h
  case daa hi => exact .inr hi
  case op10 => exact .inl rfl
  case op76 => exact .inl (s.loadSlot_running .mhl .mhl)
  all_goals exact .inl (by simp)

/-- Settles O55: 0x27 is DAA, and an operation that is not DAA's keeps `running`. -/
theorem onlyOpcode27EndsTheRun : Obligations.OnlyOpcode27EndsTheRun := by
  unfold Obligations.OnlyOpcode27EndsTheRun
  intro s t hrunning hstep
  constructor
  · intro hended
    obtain ⟨i, f, tail, hperforms, rfl, hencode⟩ := step_performs hstep
    rcases hperforms.running s with hkeeps | rfl
    · rw [hkeeps, hrunning] at hended
      cases hended
    · exact (List.cons.inj hencode).1.symm
  · intro hop
    have hexec : exec .daa s = .next t := exec_of_step hstep rfl (congrArg (fun op => [op]) hop.symm)
    cases hexec
    rfl

/-- Only EI, DI, RETI, RST and RET cc write `ime` (R288 to R290, R302, R303). -/
theorem Performs.ime {i : Instr} {f : State → State} (h : Performs i f) (s : State) :
    (f s).ime = s.ime ∨ i = .ei ∨ i = .di ∨ i = .reti ∨ (∃ y, i = Instr.rst y) ∨ ∃ cc, i = Instr.retCond cc := by
  cases h
  case setIme v hi =>
    cases v
    · exact .inr (.inr (.inl hi))
    · exact .inr (.inl hi)
  case reti hi => exact .inr (.inr (.inr (.inl hi)))
  case restart x y hi => exact .inr (.inr (.inr (.inr (.inl ⟨y, hi⟩))))
  case retIf cc hi => exact .inr (.inr (.inr (.inr (.inr ⟨cc, hi⟩))))
  case op10 => exact .inl rfl
  case op76 => exact .inl (s.loadSlot_ime .mhl .mhl)
  all_goals exact .inl (by simp)

/-- The opcodes of the eight restarts. -/
def rstOpcodes : List Byte := [0xC7, 0xCF, 0xD7, 0xDF, 0xE7, 0xEF, 0xF7, 0xFF]

theorem opOf_mem_rstOpcodes (y : BitVec 3) : opOf 3 y 7 ∈ rstOpcodes := by decide +revert

theorem eq_opOf_of_mem_rstOpcodes : ∀ op ∈ rstOpcodes, opOf 3 (fieldY op) 7 = op := by decide

theorem wellFormed_rst (y : BitVec 3) : WellFormed .primary (Instr.rst y) := by decide +revert

theorem wellFormed_retCond (cc : Cond) : WellFormed .primary (Instr.retCond cc) := by cases cc <;> rfl

theorem ime_of_exec_ei {s t : State} (h : exec .ei s = .next t) : t.ime = true := by
  cases h
  rfl

theorem ime_of_exec_reti {s t : State} (h : exec .reti s = .next t) : t.ime = true := by
  cases h
  rfl

theorem ime_of_exec_di {s t : State} (h : exec .di s = .next t) : t.ime = false := by
  cases h
  rfl

/-- A restart clears `ime` (R290). -/
theorem ime_of_exec_rst {s t : State} {y : BitVec 3} (h : exec (Instr.rst y) s = .next t) : t.ime = false := by
  rw [exec_rst] at h
  cases h
  rfl

/-- A conditional return keeps `ime` or clears it (R288). -/
theorem ime_of_exec_retCond {s t : State} {cc : Cond} (h : exec (Instr.retCond cc) s = .next t) :
    t.ime = if s.retClearsIme Config.jgameboy cc then false else s.ime := by
  rw [exec_retCond, State.retIf_eq] at h
  cases h
  dsimp only
  split <;> rfl

/-- Settles O56: the opcodes the statement names are those of the instructions that write `ime`, and every other
operation keeps it. -/
theorem imeIsWrittenOnlyByItsInstructions : Obligations.ImeIsWrittenOnlyByItsInstructions := by
  unfold Obligations.ImeIsWrittenOnlyByItsInstructions
  intro s t hstep
  have hwords {op : Byte} (hop : s.readByte s.pc = op) : [op] = [s.readByte s.pc] := congrArg (fun v => [v]) hop.symm
  dsimp only
  split_ifs with hset hclear hselected
  case pos =>
    rcases hset with hop | hop
    · exact ime_of_exec_ei (exec_of_step hstep rfl (hwords hop))
    · exact ime_of_exec_reti (exec_of_step hstep rfl (hwords hop))
  case pos =>
    rcases hclear with hop | hop
    · exact ime_of_exec_di (exec_of_step hstep rfl (hwords hop))
    · have hencode := (encode_rst _).trans (hwords (eq_opOf_of_mem_rstOpcodes _ hop).symm)
      exact ime_of_exec_rst (exec_of_step hstep (wellFormed_rst _) hencode)
  case pos =>
    obtain ⟨hop, htaken⟩ := hselected
    have hexec := exec_of_step hstep (wellFormed_retCond _) ((encode_retCond _).trans (hwords hop))
    rw [ime_of_exec_retCond hexec, if_pos ((s.retClearsIme_iff _).mpr ⟨rfl, htaken⟩)]
  case neg =>
    obtain ⟨i, f, tail, hperforms, rfl, hencode⟩ := step_performs hstep
    rcases hperforms.ime s with hkeeps | rfl | rfl | rfl | ⟨y, rfl⟩ | ⟨cc, rfl⟩
    · exact hkeeps
    · exact absurd (.inl (List.cons.inj hencode).1.symm) hset
    · exact absurd (.inl (List.cons.inj hencode).1.symm) hclear
    · exact absurd (.inr (List.cons.inj hencode).1.symm) hset
    · rw [encode_rst] at hencode
      exact absurd (.inr ((List.cons.inj hencode).1 ▸ opOf_mem_rstOpcodes y)) hclear
    · rw [encode_retCond] at hencode
      have hop := (List.cons.inj hencode).1.symm
      have hexec := exec_of_step hstep (wellFormed_retCond cc) ((encode_retCond cc).trans (hwords hop))
      rw [ime_of_exec_retCond hexec]
      refine if_neg fun hclears => ?_
      obtain ⟨rfl, htaken⟩ := (s.retClearsIme_iff cc).mp hclears
      exact hselected ⟨hop, htaken⟩

end Sys2Proof.Machine
end

section
/-! PROOFS. Nothing but PUSH AF reads `ime`, HalfCarry or Negate (O57, O58): every operation commutes with a change of
these three bits, but for those of them it writes. -/

namespace Sys2Proof.Machine

/-- The change of `ime` alone. -/
def BitMap.imeOnly (m : BitMap) : BitMap := { m with h := id, n := id }

/-- The change of HalfCarry and Negate alone. -/
def BitMap.flagsOnly (m : BitMap) : BitMap := { m with ime := id }

/-- A change that leaves HalfCarry and Negate alone is one of `ime` alone. -/
theorem BitMap.imeOnly_eq {m : BitMap} (hh : m.h = id) (hn : m.n = id) : m.imeOnly = m := by
  obtain ⟨ime, h, n⟩ := m
  obtain rfl : h = id := hh
  obtain rfl : n = id := hn
  rfl

/-- `m'` changes none of the bits that `m` leaves alone. -/
def BitMap.Within (m' m : BitMap) : Prop := (m.ime = id → m'.ime = id) ∧ (m.h = id → m'.h = id) ∧ (m.n = id → m'.n = id)

/-- `t` is `u` but for bits that `m` changes. -/
def DiffersWithin (m : BitMap) (t u : State) : Prop := ∃ m' : BitMap, t = u.mapBits m' ∧ m'.Within m

section
variable {m : BitMap} {t u : State}

/-- As where an operation writes none of the three bits. -/
theorem DiffersWithin.of_mapBits (h : t = u.mapBits m) : DiffersWithin m t u := ⟨m, h, id, id, id⟩

/-- As where an operation writes HalfCarry and Negate. -/
theorem DiffersWithin.of_imeOnly (h : t = u.mapBits m.imeOnly) : DiffersWithin m t u :=
  ⟨m.imeOnly, h, id, fun _ => rfl, fun _ => rfl⟩

/-- As where an operation writes `ime`. -/
theorem DiffersWithin.of_flagsOnly (h : t = u.mapBits m.flagsOnly) : DiffersWithin m t u :=
  ⟨m.flagsOnly, h, fun _ => rfl, id, id⟩

theorem DiffersWithin.advance (h : DiffersWithin m t u) (n : Word) : DiffersWithin m (t.advance n) (u.advance n) := by
  obtain ⟨m', htu, hwithin⟩ := h
  exact ⟨m', congrArg (·.advance n) htu, hwithin⟩

end

section
variable (s : State) (m : BitMap)

@[simp] theorem State.mapBits_readSlot (z : Slot) : (s.mapBits m).readSlot z = s.readSlot z := by
  cases z <;> rfl

@[simp] theorem State.mapBits_cond (cc : Cond) : (s.mapBits m).cond cc = s.cond cc := by
  cases cc <;> rfl

@[simp] theorem State.mapBits_getPair (p : Pair) : (s.mapBits m).getPair p = s.getPair p := by
  cases p <;> rfl

@[simp] theorem State.mapBits_retClearsIme (c : Config) (cc : Cond) :
    (s.mapBits m).retClearsIme c cc = s.retClearsIme c cc := by
  rw [State.retClearsIme, State.retClearsIme, State.mapBits_cond]

theorem State.writeSlot_mapBits (z : Slot) (v : Byte) :
    (s.mapBits m).writeSlot z v = (s.writeSlot z v).mapBits m := by
  cases z <;> rfl

theorem State.setPair_mapBits (p : Pair) (v : Word) : (s.mapBits m).setPair p v = (s.setPair p v).mapBits m := by
  cases p <;> rfl

theorem State.loadSlot_mapBits (dst src : Slot) :
    (s.mapBits m).loadSlot dst src = (s.loadSlot dst src).mapBits m := by
  rw [State.loadSlot, State.mapBits_readSlot, State.writeSlot_mapBits]
  rfl

theorem State.loadImm_mapBits (z : Slot) (n : Byte) : (s.mapBits m).loadImm z n = (s.loadImm z n).mapBits m := by
  rw [State.loadImm, State.writeSlot_mapBits]
  rfl

theorem State.jumpIf_mapBits (cc : Cond) (x n : Word) :
    (s.mapBits m).jumpIf cc x n = (s.jumpIf cc x n).mapBits m := by
  rw [State.jumpIf_eq, State.jumpIf_eq, State.mapBits_cond]
  rfl

theorem State.push16_mapBits (v : Word) : (s.mapBits m).push16 v = (s.push16 v).mapBits m := by
  rw [State.push16_eq, State.push16_eq]
  rfl

theorem State.call_mapBits (x n : Word) : (s.mapBits m).call x n = (s.call x n).mapBits m :=
  congrArg (·.jump x) (s.push16_mapBits m (s.pc + n))

theorem State.callIf_mapBits (cc : Cond) (x : Word) : (s.mapBits m).callIf cc x = (s.callIf cc x).mapBits m := by
  rw [State.callIf, State.callIf, State.mapBits_cond]
  split
  · exact s.call_mapBits m x 3
  · rfl

/-- RST clears `ime` (R290). -/
theorem State.restart_mapBits (x : Word) : (s.mapBits m).restart x = (s.restart x).mapBits m.flagsOnly :=
  congrArg (·.setIme false) (s.call_mapBits m x 1)

/-- A slot written together with the flags keeps no trace of the flags before. -/
theorem State.updateSlot_mapBits (z : Slot) (r : Byte × Flags) :
    (s.mapBits m).updateSlot z r = (s.updateSlot z r).mapBits m.imeOnly := by
  rw [State.updateSlot, State.writeSlot_mapBits]
  rfl

/-- INC reads no flag but Carry (R118). -/
theorem State.incSlot_mapBits (z : Slot) : (s.mapBits m).incSlot z = (s.incSlot z).mapBits m.imeOnly := by
  rw [State.incSlot, State.mapBits_readSlot, State.updateSlot_mapBits]
  rfl

/-- DEC reads no flag but Carry (R119). -/
theorem State.decSlot_mapBits (z : Slot) : (s.mapBits m).decSlot z = (s.decSlot z).mapBits m.imeOnly := by
  rw [State.decSlot, State.mapBits_readSlot, State.updateSlot_mapBits]
  rfl

/-- An ALU operation reads no flag but Carry (R111, R113). -/
theorem Alu.apply_mapBits (c : Config) (op : AluOp) (a b : Byte) :
    Alu.apply c op (s.mapBits m).flags a b = Alu.apply c op s.flags a b := by
  cases op <;> rfl

theorem State.aluOn_mapBits (c : Config) (op : AluOp) (b : Byte) (n : Word) :
    (s.mapBits m).aluOn c op b n = (s.aluOn c op b n).mapBits m.imeOnly := by
  rw [State.aluOn, Alu.apply_mapBits]
  rfl

/-- A rotate reads no flag but Zero and Carry (R121 to R128). -/
theorem Alu.rotate_mapBits (c : Config) (op : RotOp) (v : Byte) :
    Alu.rotate c op (s.mapBits m).flags v = Alu.rotate c op s.flags v := by
  cases op <;> rfl

theorem State.rotA_mapBits (c : Config) (op : RotOp) :
    (s.mapBits m).rotA c op = (s.rotA c op).mapBits m.imeOnly := by
  rw [State.rotA, Alu.rotate_mapBits]
  rfl

theorem State.addHL_mapBits (p : Pair) : (s.mapBits m).addHL p = (s.addHL p).mapBits m.imeOnly := by
  rw [State.addHL, State.mapBits_getPair]
  rfl

theorem State.extRot_mapBits (c : Config) (op : RotOp) (z : Slot) :
    (s.mapBits m).extRot c op z = (s.extRot c op z).mapBits m.imeOnly := by
  rw [State.extRot, State.mapBits_readSlot, Alu.rotate_mapBits, State.updateSlot_mapBits]
  rfl

/-- BIT reads no flag but Carry (R129). -/
theorem State.extBit_mapBits (b : Nat) (z : Slot) : (s.mapBits m).extBit b z = (s.extBit b z).mapBits m.imeOnly := by
  rw [State.extBit, State.mapBits_readSlot]
  rfl

theorem State.extRes_mapBits (b : Nat) (z : Slot) : (s.mapBits m).extRes b z = (s.extRes b z).mapBits m := by
  rw [State.extRes, State.mapBits_readSlot, State.writeSlot_mapBits]
  rfl

theorem State.extSet_mapBits (b : Nat) (z : Slot) : (s.mapBits m).extSet b z = (s.extSet b z).mapBits m := by
  rw [State.extSet, State.mapBits_readSlot, State.writeSlot_mapBits]
  rfl

/-- ExecExt writes HalfCarry and Negate in the rotate and the BIT rows and keeps them in the others (R320). -/
theorem State.execExt_mapBits (c : Config) (op2 : Byte) :
    DiffersWithin m ((s.mapBits m).execExt c op2) (s.execExt c op2) := by
  simp only [State.execExt]
  split_ifs
  · exact .of_mapBits rfl
  · exact .of_imeOnly (s.extRot_mapBits m c _ _)
  · exact .of_imeOnly (s.extBit_mapBits m _ _)
  · exact .of_mapBits (s.extRes_mapBits m _ _)
  · exact .of_mapBits (s.extSet_mapBits m _ _)

/-- A conditional return writes `ime` or keeps it (R288). -/
theorem State.retIf_mapBits (c : Config) (cc : Cond) :
    DiffersWithin m ((s.mapBits m).retIf c cc) (s.retIf c cc) := by
  rw [State.retIf_eq, State.retIf_eq, State.mapBits_retClearsIme, State.mapBits_cond]
  by_cases hclears : s.retClearsIme c cc = true
  · refine .of_flagsOnly ?_
    rw [if_pos hclears, if_pos hclears]
    split_ifs <;> rfl
  · refine .of_mapBits ?_
    rw [if_neg hclears, if_neg hclears]
    split_ifs <;> rfl

/-- POP AF writes the flags, the other three keep them (R216, R217). -/
theorem State.popPair_mapBits (p : StackPair) :
    DiffersWithin m ((s.mapBits m).popPair p) (s.popPair p) := by
  cases p
  case af => exact .of_imeOnly rfl
  all_goals exact .of_mapBits rfl

/-- PUSH reads the flags for AF only (R214, R215). -/
theorem State.pushPair_mapBits (p : StackPair) (hp : p = .af → m.h = id ∧ m.n = id) :
    (s.mapBits m).pushPair p = (s.pushPair p).mapBits m := by
  have hword : (s.mapBits m).getStackPair p = s.getStackPair p := by
    cases p
    case af =>
      obtain ⟨hh, hn⟩ := hp rfl
      rw [← BitMap.imeOnly_eq hh hn]
      rfl
    all_goals rfl
  rw [State.pushPair, hword, State.push16_mapBits]
  rfl

end

/-- An operation on a state with the three bits changed does what it does without, but for the bits changed; only PUSH AF
is left out, where HalfCarry or Negate is one of them. -/
theorem Performs.mapBits {i : Instr} {f : State → State} (h : Performs i f) (s : State) (m : BitMap)
    (hpush : i = .push_af → m.h = id ∧ m.n = id) :
    DiffersWithin m (f (s.mapBits m)) (f s) := by
  cases h
  all_goals beta_reduce
  case advance | illegal | op10 | daa | storeSP | ret => exact .of_mapBits rfl
  case loadSlot dst src _ => exact .of_mapBits (s.loadSlot_mapBits m dst src)
  case op76 => exact .of_mapBits (s.loadSlot_mapBits m .mhl .mhl)
  case loadImm dst n _ => exact .of_mapBits (s.loadImm_mapBits m dst n)
  case loadA x n hx => exact .of_mapBits (by rw [hx]; rfl)
  case loadAThenHL x v n hx hv => exact .of_mapBits (by rw [hx, hv]; rfl)
  case storeA x n hx _ => exact .of_mapBits (by rw [hx]; rfl)
  case storeAThenHL x v n hx hv _ => exact .of_mapBits (by rw [hx, hv]; rfl)
  case setPair p v n hv => exact .of_mapBits (by rw [hv, State.setPair_mapBits]; rfl)
  case setSP v n hv => exact .of_mapBits (by rw [hv]; rfl)
  case jump x hx => exact .of_mapBits (by rw [hx]; rfl)
  case jumpIf cc x n hx => exact .of_mapBits (by rw [hx, State.jumpIf_mapBits])
  case call x _ => exact .of_mapBits (s.call_mapBits m x 3)
  case callIf cc x _ => exact .of_mapBits (s.callIf_mapBits m cc x)
  case extRes b z _ => exact .of_mapBits (s.extRes_mapBits m b z)
  case extSet b z _ => exact .of_mapBits (s.extSet_mapBits m b z)
  case pushPair p hi =>
    refine .of_mapBits (s.pushPair_mapBits m p fun hp => hpush ?_)
    rw [hi, hp]
    rfl
  case loadHLSP | addSP | cpl | scf | ccf => exact .of_imeOnly rfl
  case addHL p => exact .of_imeOnly (s.addHL_mapBits m p)
  case aluSlot op z => exact .of_imeOnly (by rw [State.aluSlot, State.mapBits_readSlot, State.aluOn_mapBits]; rfl)
  case aluImm op n => exact .of_imeOnly (s.aluOn_mapBits m _ op n 2)
  case incSlot z _ => exact .of_imeOnly (s.incSlot_mapBits m z)
  case decSlot z _ => exact .of_imeOnly (s.decSlot_mapBits m z)
  case rotA op => exact .of_imeOnly (s.rotA_mapBits m _ op)
  case extRot op z _ => exact .of_imeOnly (s.extRot_mapBits m _ op z)
  case extBit b z => exact .of_imeOnly (s.extBit_mapBits m b z)
  case setIme | reti => exact .of_flagsOnly rfl
  case restart x _ _ => exact .of_flagsOnly (s.restart_mapBits m x)
  case popPair p => exact s.popPair_mapBits m p
  case retIf cc _ => exact s.retIf_mapBits m _ cc
  case prefixed => exact (s.execExt_mapBits m _ (s.readByte s.pc)).advance 1

/-- A running state with the three bits changed fetches what it fetches without and steps to the same next state, but for
the bits changed. -/
theorem step_mapBits {s : State} (hrunning : s.running = true) (m : BitMap)
    (hpush : s.readByte s.pc = 0xF5 → m.h = id ∧ m.n = id) :
    ∃ (t : State) (m' : BitMap), step s = .next t ∧ step (s.mapBits m) = .next (t.mapBits m') ∧ m'.Within m := by
  obtain ⟨i, tail, hfetch, -, hencode⟩ := s.fetch_total
  have hfetch' : (s.mapBits m).fetch = some i := hfetch
  obtain ⟨f, hperforms, hexec⟩ := exec_performs i
  have hpushAF : i = .push_af → m.h = id ∧ m.n = id := by
    rintro rfl
    exact hpush (List.cons.inj hencode).1.symm
  obtain ⟨m', hf, hwithin⟩ := hperforms.mapBits s m hpushAF
  refine ⟨f s, m', ?_, ?_, hwithin⟩
  · rw [step_of_fetch hrunning hfetch, hexec]
  · rw [step_of_fetch (s := s.mapBits m) hrunning hfetch', hexec, hf]

/-- Settles O57: the change is one of `ime` alone. -/
theorem imeIsReadByNothing : Obligations.ImeIsReadByNothing := by
  unfold Obligations.ImeIsReadByNothing
  intro s v hrunning
  obtain ⟨t, m', hstep, hstep', -, hh, hn⟩ :=
    step_mapBits hrunning { ime := fun _ => v, h := id, n := id } fun _ => ⟨rfl, rfl⟩
  rw [← BitMap.imeOnly_eq (hh rfl) (hn rfl)] at hstep'
  exact ⟨t, m'.ime t.ime, hstep, hstep'⟩

/-- Settles O58: the change is one of HalfCarry and Negate alone. -/
theorem halfCarryAndNegateAreReadOnlyByPushAF : Obligations.HalfCarryAndNegateAreReadOnlyByPushAF := by
  unfold Obligations.HalfCarryAndNegateAreReadOnlyByPushAF
  intro s h n hrunning hop
  obtain ⟨t, m', hstep, hstep', hime, -, -⟩ :=
    step_mapBits hrunning { ime := id, h := fun _ => h, n := fun _ => n } fun hpush => absurd hpush hop
  have hkept : t.mapBits m' = { t with flags := { t.flags with h := m'.h t.flags.h, n := m'.n t.flags.n } } := by
    rw [State.mapBits, hime rfl]
    rfl
  exact ⟨t, m'.h t.flags.h, m'.n t.flags.n, hstep, hkept ▸ hstep'⟩

end Sys2Proof.Machine
end

section
/-! PROOFS. Reset (O2, O3, R381, R382, D32). -/

namespace Sys2Proof.Machine

/-- Writing a table a second time changes nothing: each of its addresses holds its value, and the others are not written. -/
theorem Memory.writeCells_writeCells {m : Memory} (hm : m.wf) {cells : List Host.Cell}
    (hc : ∀ x ∈ cells, x.1 < 65536) (hn : cells.Pairwise fun x y => x.1 ≠ y.1) :
    (m.writeCells cells).writeCells cells = m.writeCells cells := by
  have hwf : (m.writeCells cells).wf := Memory.writeCells_wf hm hc
  refine Memory.eq_of_read (Memory.writeCells_wf hwf hc) hwf fun a => ?_
  by_cases h : ∃ p ∈ cells, p.1 = a
  · obtain ⟨p, hp, rfl⟩ := h
    rw [Memory.read_writeCells_mem hwf cells hc hn p hp, Memory.read_writeCells_mem hm cells hc hn p hp]
  · exact Memory.read_writeCells_ne _ cells a fun p hp e => h ⟨p, hp, e⟩

/-- Settles O2: `reset()` writes its table over memory, and the table lists no address twice. -/
theorem resetKeepsOtherCellsAndIsIdempotent : Obligations.ResetKeepsOtherCellsAndIsIdempotent := by
  unfold Obligations.ResetKeepsOtherCellsAndIsIdempotent
  intro s hs
  refine ⟨?registers, ?table, ?outside, ?idempotent⟩
  case registers => rw [State.resetOp]
  case table =>
    intro p hp
    rw [State.readByte, State.resetOp_mem, BitVec.toNat_ofNat, Nat.mod_eq_of_lt (resetTable_in_space p hp)]
    exact Memory.read_writeCells_mem hs resetTable resetTable_in_space resetTable_pairwise p hp
  case outside =>
    intro x hx
    rw [State.readByte, State.resetOp_mem]
    exact Memory.read_writeCells_ne _ _ _ fun p hp => (hx p hp).symm
  case idempotent =>
    rw [State.resetOp, State.resetOp_mem, State.resetOp,
      Memory.writeCells_writeCells hs resetTable_in_space resetTable_pairwise]

/-- Settles O3. -/
theorem resetHasCanonicalMemory : Obligations.ResetHasCanonicalMemory := by
  unfold Obligations.ResetHasCanonicalMemory
  exact State.reset_mem_wf

end Sys2Proof.Machine
end

section
/-! PROOFS. The word access (O5, R53), and the stores and loads at HL, in the high page and at an address (O13, O16, O17). -/

namespace Sys2Proof.Machine

/-- A word reads back whole where a word store has put it (R53). -/
theorem StoresWord.readWord {s t : State} {x v : Word} (h : StoresWord s t x v) : t.readWord x = v := by
  obtain ⟨-, hlow, hhigh, -⟩ := h
  rw [State.readWord, hlow, hhigh, wordOf_hiByte_loByte]

/-- Settles O5, by what a word store does. -/
theorem wordAccessIsLittleEndian : Obligations.WordAccessIsLittleEndian := by
  unfold Obligations.WordAccessIsLittleEndian
  intro s x v hs
  have hstores := State.writeWord_storesWord hs x v
  exact ⟨toNat_wordOf _ _, hstores, hstores.readWord⟩

/-- Under OP76 = halt 0x76 ends the run and only advances `pc` (R173, D15). -/
theorem State.op76_of_halt (s : State) {c : Config} (h : c.op76 = .halt) :
    s.op76 c = { s with running := false, pc := s.pc + 1 } := by
  rw [State.op76, h]
  rfl

/-- Settles O13: the byte stored at HL is the one read there. -/
theorem opcode76RewritesItsCell : Obligations.Opcode76RewritesItsCell := by
  unfold Obligations.Opcode76RewritesItsCell
  intro s hs
  refine ⟨rfl, ⟨s.loadSlot .mhl .mhl, exec_ldBand .mhl .mhl s, ?stores⟩, fun c => s.op76_of_halt⟩
  case stores => exact State.writeByte_storesByte (s := s.advance 1) hs s.hl (s.readByte s.hl)

/-- A store of A at HL that then writes HL stores at the old HL (R180, R181). -/
theorem State.storeA_setHL_storesByte {s : State} (hs : s.mem.wf) (v : Word) :
    StoresByte { s with h := hiByte v, l := loByte v, pc := s.pc + 1 } ((s.storeA s.hl 1).setHL v) s.hl s.a :=
  State.writeByte_storesByte (s := (s.advance 1).setHL v) hs s.hl s.a

/-- Settles O16: each is a store or a load of A at the old HL, then one write of HL. -/
theorem loadsThroughHLPostModify : Obligations.LoadsThroughHLPostModify := by
  unfold Obligations.LoadsThroughHLPostModify
  intro s hs
  exact ⟨rfl, rfl, rfl, rfl, ⟨_, rfl, State.storeA_setHL_storesByte hs (s.hl + 1)⟩,
    ⟨_, rfl, State.storeA_setHL_storesByte hs (s.hl - 1)⟩, rfl, rfl⟩

/-- The high page's addresses as numbers (R88). -/
theorem highPage_eq_ofNat (v : Byte) : highPage v = BitVec.ofNat 16 (65280 + v.toNat) := by
  rw [highPage]
  bv_omega

/-- Settles O17: each is a store or a load of A at its address. -/
theorem highPageAndAbsoluteLoads : Obligations.HighPageAndAbsoluteLoads := by
  unfold Obligations.HighPageAndAbsoluteLoads
  intro s n w hs
  rw [← highPage_eq_ofNat, ← highPage_eq_ofNat]
  exact ⟨rfl, rfl, rfl, rfl, rfl, rfl, ⟨_, rfl, State.storeA_storesByte hs (highPage n) 2⟩, rfl,
    ⟨_, rfl, State.storeA_storesByte hs (highPage s.c) 1⟩, rfl, ⟨_, rfl, State.storeA_storesByte hs w 3⟩, rfl⟩

end Sys2Proof.Machine
end

section
/-! PROOFS. The stub of DAA, STOP, DI and EI (O29, O41), and two steps that depend on where the opcode stands (O43,
O60). -/

namespace Sys2Proof.Machine

/-- Settles O29: DAA is two writes, of `running` and of `pc`. -/
theorem decimalAdjustStubEndsTheRun : Obligations.DecimalAdjustStubEndsTheRun := by
  unfold Obligations.DecimalAdjustStubEndsTheRun
  intro s
  exact ⟨rfl, rfl⟩

/-- Under OP10 = halt 0x10 ends the run and only advances `pc` (R301, D16). -/
theorem State.op10_of_halt (s : State) {c : Config} (h : c.op10 = .halt) :
    s.op10 c = { s with running := false, pc := s.pc + 1 } := by
  rw [State.op10, h]
  rfl

/-- Settles O41: STOP is an advance of `pc` at the default of OP10, DI and EI write `ime` besides. -/
theorem stopDiAndEi : Obligations.StopDiAndEi := by
  unfold Obligations.StopDiAndEi
  intro s
  exact ⟨rfl, rfl, rfl, rfl, rfl, rfl, fun c => s.op10_of_halt⟩

/-- ExecExt(0xCB) is SET 1,E (R331). -/
theorem State.execExt_cb (s : State) : s.execExt Config.jgameboy 0xCB = { s with e := s.e ||| 0x02 } := rfl

/-- Settles O43: PREFIX takes its own opcode byte as `op2`. -/
theorem prefixedStepIsAlwaysSet1E : Obligations.PrefixedStepIsAlwaysSet1E := by
  unfold Obligations.PrefixedStepIsAlwaysSet1E
  intro s hrunning hop
  rw [step_of_encode (i := .prefix_cb) hrunning rfl (congrArg (fun op => [op]) hop.symm), exec_prefix_cb_eq, hop,
    State.execExt_cb]

/-- Settles O60: the store is LD (HL),A at the address that `pc` then holds. -/
theorem storeIsSeenByTheNextFetch : Obligations.StoreIsSeenByTheNextFetch := by
  unfold Obligations.StoreIsSeenByTheNextFetch
  intro s hs hrunning hop hhl
  have hstep : step s = exec (Instr.ldBand .mhl .a) s :=
    step_of_encode hrunning rfl (congrArg (fun op => [op]) hop.symm)
  have hread : (s.loadSlot .mhl .a).readByte (s.pc + 1) = s.a := by
    rw [← hhl]
    exact State.readByte_writeByte_same hs s.hl s.a
  exact ⟨s.loadSlot .mhl .a, hstep.trans (exec_ldBand .mhl .a s), rfl, congrArg some hread⟩

end Sys2Proof.Machine
end

section
/-! PROOFS. The Carry folded into ADC and SBC (O10, O23, R111, R113, D7), CP (O25, D11) and the immediate operands (O26,
D12). -/

namespace Sys2Proof.Machine

namespace Alu

/-- `add` looks at its second argument by itself for HalfCarry only (R110). -/
theorem add_eq_of_sum_eq {a b a' b' : Int} (h : a + b = a' + b') :
    add a b = ((add a' b').1, { (add a' b').2 with h := (add a b).2.h }) := by
  simp only [add, h]

/-- `sub` looks at its arguments by themselves for HalfCarry only (R112). -/
theorem sub_eq_of_diff_eq {a b a' b' : Int} (h : a - b = a' - b') :
    sub a b = ((sub a' b').1, { (sub a' b').2 with h := (sub a b).2.h }) := by
  simp only [sub, h]

theorem adc_false (fold : CarryFold) (a b : Int) : adc fold false a b = add a b := by
  cases fold
  · exact congrArg (add · b) (add_zero a)
  · exact congrArg (add a) (add_zero b)

theorem sbc_false (fold : CarryFold) (a b : Int) : sbc fold false a b = sub a b := by
  cases fold
  · exact congrArg (sub · b) (sub_zero a)
  · exact congrArg (sub a) (add_zero b)

/-- Settles O10: the two folds have the same sum, and the same difference. -/
theorem carryFoldChangesOnlyHalfCarry : Obligations.CarryFoldChangesOnlyHalfCarry := by
  unfold Obligations.CarryFoldChangesOnlyHalfCarry
  intro cin a b
  have hsum : intOf a + (intOf b + carryIn cin) = (intOf a + carryIn cin) + intOf b := by omega
  have hdiff : intOf a - (intOf b + carryIn cin) = (intOf a - carryIn cin) - intOf b := by omega
  exact ⟨⟨_, add_eq_of_sum_eq hsum⟩, ⟨_, sub_eq_of_diff_eq hdiff⟩, fun fold => ⟨adc_false fold _ _, sbc_false fold _ _⟩⟩

theorem carryIn_eq_toNat (c : Bool) : carryIn c = (c.toNat : Int) := by
  cases c <;> rfl

/-- What `add` answers for natural numbers whose sum has nine bits (R110). -/
theorem add_natCast {m n : Nat} (hbits : m + n < 2 ^ 9) : add (m : Int) (n : Int) =
    (BitVec.ofNat 8 (m + n),
      { z := decide (m + n = 0), c := decide (256 ≤ m + n), h := (m + n).testBit 3 && n.testBit 3, n := false }) := by
  have hz : (((m + n : Nat) : Int) == 0) = decide (m + n = 0) := decide_eq_decide.mpr Int.natCast_eq_zero
  rw [add, ← Int.natCast_add, hz, bitOf_natCast_of_lt hbits, bitOf_natCast, bitOf_natCast, BitVec.ofInt_natCast]
  rfl

/-- What `adc` answers under CARRY_FOLD = into_a, in the numbers of the bytes (R111, D7). -/
theorem adc_intOf (k : Bool) (a b : Byte) : adc .intoA k (intOf a) (intOf b) =
    let x := a.toNat + k.toNat
    let y := b.toNat
    (BitVec.ofNat 8 (x + y),
      { z := decide (x + y = 0), c := decide (256 ≤ x + y), h := (x + y).testBit 3 && y.testBit 3, n := false }) := by
  have hk : k.toNat ≤ 1 := k.toNat_le
  have hbits : a.toNat + k.toNat + b.toNat < 2 ^ 9 := by omega
  rw [adc, carryIn_eq_toNat, intOf, intOf, ← Int.natCast_add, add_natCast hbits]

/-- Bit 3 of an integer is that of the integer 256 above. -/
theorem bitOf_add_256 (x : Int) : bitOf (x + 256) 3 = bitOf x 3 := by
  rw [Bool.eq_iff_iff, bitOf_eq_true_iff, bitOf_eq_true_iff]
  omega

/-- What `sbc` answers under CARRY_FOLD = into_a, in the numbers of the bytes (R113, D7). -/
theorem sbc_intOf (k : Bool) (a b : Byte) : sbc .intoA k (intOf a) (intOf b) =
    let x := a.toNat
    let y := b.toNat
    (BitVec.ofNat 8 (x + 512 - k.toNat - y),
      { z := decide (x = k.toNat + y), c := decide (x < k.toNat + y),
        h := !(x + 256 - k.toNat).testBit 3 && y.testBit 3, n := true }) := by
  have hk : k.toNat ≤ 1 := k.toNat_le
  have hvalue : BitVec.ofInt 8 (intOf a - k.toNat - intOf b) = BitVec.ofNat 8 (a.toNat + 512 - k.toNat - b.toNat) := by
    apply BitVec.eq_of_toNat_eq
    rw [BitVec.toNat_ofInt, BitVec.toNat_ofNat, intOf, intOf]
    omega
  have hz : (intOf a - k.toNat - intOf b == 0) = decide (a.toNat = k.toNat + b.toNat) :=
    decide_eq_decide.mpr (by rw [intOf, intOf]; omega)
  have hc : decide (intOf a - k.toNat - intOf b < 0) = decide (a.toNat < k.toNat + b.toNat) :=
    decide_eq_decide.mpr (by rw [intOf, intOf]; omega)
  have hh : bitOf (intOf a - k.toNat) 3 = (a.toNat + 256 - k.toNat).testBit 3 := by
    have hcast : intOf a - k.toNat + 256 = ((a.toNat + 256 - k.toNat : Nat) : Int) := by
      rw [intOf]
      omega
    rw [← bitOf_add_256, hcast, bitOf_natCast]
  rw [sbc, carryIn_eq_toNat, sub, hvalue, hz, hc, hh, intOf, bitOf_natCast]

end Alu

/-- Settles O23: ADC and SBC write what `adc` and `sbc` answer for A and the slot. -/
theorem adcAndSbcBand : Obligations.AdcAndSbcBand := by
  unfold Obligations.AdcAndSbcBand
  intro s z
  refine ⟨encode_aluBand .adc z, encode_aluBand .sbc z, ?adc, ?sbc⟩
  case adc => rw [exec_aluBand, Alu.apply, Config.jgameboy, Alu.adc_intOf]
  case sbc => rw [exec_aluBand, Alu.apply, Config.jgameboy, Alu.sbc_intOf]

/-- Settles O25: `cp` answers A itself and the flags of `sub`. -/
theorem compareBand : Obligations.CompareBand := by
  unfold Obligations.CompareBand
  intro s z
  refine ⟨encode_aluBand .cp z, ?_⟩
  rw [exec_aluBand, Alu.apply, Alu.cp, Alu.sub_intOf]

theorem encode_aluImm (op : AluOp) (n : Byte) : encode (Instr.aluImm op n) = [opOf 3 op.code 6, n] := by
  cases op <;> rfl

theorem exec_aluImm (op : AluOp) (n : Byte) (s : State) :
    exec (Instr.aluImm op n) s = .next (s.aluOn Config.jgameboy op n 2) := by
  cases op <;> rfl

/-- Settles O26: both forms write A and the flags from what the helper answers for A and the operand byte. -/
theorem immediateAluIsTheBandOnTheOperand : Obligations.ImmediateAluIsTheBandOnTheOperand := by
  unfold Obligations.ImmediateAluIsTheBandOnTheOperand
  intro s op n
  exact ⟨encode_aluImm op n, _, exec_aluBand op .b { s with b := n }, exec_aluImm op n s, rfl⟩

/-- Settles O30: each is one write of the flags; A XOR 0xFF is its complement. -/
theorem complementAndCarryFlag : Obligations.ComplementAndCarryFlag := by
  unfold Obligations.ComplementAndCarryFlag
  intro s
  have hcpl : s.a ^^^ 0xFF = BitVec.ofNat 8 (255 - s.a.toNat) := by
    rw [show (0xFF : Byte) = BitVec.allOnes 8 from rfl, BitVec.xor_allOnes]
    bv_omega
  rw [← hcpl]
  exact ⟨rfl, rfl, rfl, rfl, rfl, rfl⟩

end Sys2Proof.Machine
end

section
/-! PROOFS. 16-bit arithmetic (O19, O31, O32) and relative jumps (O34). -/

namespace Sys2Proof.Machine

/-- A signed offset added mod 2^16 (R9, R88). -/
theorem add_sext16_eq_ofInt (x : Word) (e8 : Byte) : x + sext16 e8 = BitVec.ofInt 16 ((x.toNat : Int) + e8.toInt) := by
  rw [BitVec.ofInt_add, BitVec.ofInt_natCast, BitVec.ofNat_toNat, BitVec.setWidth_eq]
  rfl

/-- What `sp + e8` answers (R213, R273, D19). -/
theorem Alu.spPlus_eq (sp : Word) (e8 : Byte) : Alu.spPlus sp e8 =
    (BitVec.ofInt 16 ((sp.toNat : Int) + e8.toInt),
      { z := false, c := decide (256 ≤ sp.toNat % 256 + e8.toNat),
        h := decide (16 ≤ sp.toNat % 16 + e8.toNat % 16), n := false }) := by
  have hc : (loByte sp).toNat = sp.toNat % 256 := by rw [loByte_eq_ofNat, BitVec.toNat_ofNat]
  have hh : (sp.extractLsb' 0 4).toNat = sp.toNat % 16 := by rw [BitVec.extractLsb'_toNat, Nat.shiftRight_zero]
  rw [Alu.spPlus, add_sext16_eq_ofInt, hc, hh, Alu.toNat_lowNibble]
  rfl

/-- Settles O19: both write what `sp + e8` answers, to HL or to `sp`. -/
theorem stackOffsetArithmetic : Obligations.StackOffsetArithmetic := by
  unfold Obligations.StackOffsetArithmetic
  intro s n
  refine ⟨rfl, rfl, ?hl, ?sp⟩
  case hl =>
    have hexec : exec (.ld_hl_sp_e8 n) s = .next (s.loadHLSP n) := rfl
    rw [hexec, State.loadHLSP, Alu.spPlus_eq]
    rfl
  case sp =>
    have hexec : exec (.add_sp_e8 n) s = .next (s.addSP n) := rfl
    rw [hexec, State.addSP, Alu.spPlus_eq]
    rfl

theorem encode_addHL (p : Pair) : encode (Instr.addHL p) = [opOf 0 (p.code ++ 1#1) 1] := by
  cases p <;> rfl

theorem exec_addHL (p : Pair) (s : State) : exec (Instr.addHL p) s = .next (s.addHL p) := by
  cases p <;> rfl

/-- The halves of the 16-bit sum are those of the sum itself (R23, R120). -/
theorem Alu.add16_halves (f : Flags) (a b : Word) :
    hiByte (Alu.add16 f a b).1 = BitVec.ofNat 8 ((a.toNat + b.toNat) / 256) ∧
      loByte (Alu.add16 f a b).1 = BitVec.ofNat 8 (a.toNat + b.toNat) := by
  rw [hiByte_eq_ofNat, loByte_eq_ofNat, Alu.toNat_add16]
  constructor
  · apply BitVec.eq_of_toNat_eq
    rw [BitVec.toNat_ofNat, BitVec.toNat_ofNat]
    omega
  · apply BitVec.eq_of_toNat_eq
    rw [BitVec.toNat_ofNat, BitVec.toNat_ofNat]
    omega

/-- Settles O31: ADD HL,rr writes what `add16` answers for HL and the pair. -/
theorem addToHL : Obligations.AddToHL := by
  unfold Obligations.AddToHL
  intro s p
  obtain ⟨hhigh, hlow⟩ := Alu.add16_halves s.flags s.hl (s.getPair p)
  refine ⟨encode_addHL p, ?_⟩
  rw [exec_addHL, State.addHL, State.setHL, hhigh, hlow, Alu.add16_flags]
  cases p <;> rfl

theorem encode_incPair (p : Pair) : encode (Instr.incPair p) = [opOf 0 (p.code ++ 0#1) 3] := by
  cases p <;> rfl

theorem encode_decPair (p : Pair) : encode (Instr.decPair p) = [opOf 0 (p.code ++ 1#1) 3] := by
  cases p <;> rfl

/-- Subtracting 1 mod 2^16 is adding 0xFFFF. -/
theorem word_sub_one (x : Word) : x - 1 = x + 0xFFFF := by bv_omega

/-- Settles O32: each is one pair write. -/
theorem incAndDecPairs : Obligations.IncAndDecPairs := by
  unfold Obligations.IncAndDecPairs
  intro s
  simp only [← word_sub_one]
  exact ⟨fun p => ⟨encode_incPair p, encode_decPair p⟩, rfl, rfl, rfl, rfl, rfl, rfl, rfl, rfl⟩

/-- The target of a relative jump, as an integer mod 2^16 (R283, D21). -/
theorem State.relTarget_eq (s : State) (e8 : Byte) :
    s.relTarget e8 = BitVec.ofInt 16 ((s.pc.toNat : Int) + 2 + e8.toInt) := by
  rw [State.relTarget, BitVec.ofInt_add, BitVec.ofInt_add, BitVec.ofInt_natCast, BitVec.ofNat_toNat,
    BitVec.setWidth_eq]
  rfl

theorem encode_jrCond (cc : Cond) (n : Byte) : encode (Instr.jrCond cc n) = [opOf 0 (1#1 ++ cc.code) 0, n] := by
  cases cc <;> rfl

theorem exec_jrCond (cc : Cond) (n : Byte) (s : State) :
    exec (Instr.jrCond cc n) s = .next { s with pc := if s.cond cc then s.relTarget n else s.pc + 2 } := by
  rw [← State.jumpIf_eq]
  cases cc <;> rfl

/-- Settles O34: JR is one write of `pc`, JR cc one that depends on the condition. -/
theorem relativeJumps : Obligations.RelativeJumps := by
  unfold Obligations.RelativeJumps
  intro s cc n
  rw [← State.relTarget_eq]
  exact ⟨rfl, encode_jrCond cc n, rfl, exec_jrCond cc n s⟩

end Sys2Proof.Machine
end

section
/-! PROOFS. Rotates and shifts, of A (O28, R250 to R253, D13) and of a slot (O44, R321 to R328). -/

namespace Sys2Proof.Machine

/-- Two sets of flags with the same four flags are the same. -/
theorem Flags.ext_fields {f g : Flags} (hz : f.z = g.z) (hc : f.c = g.c) (hh : f.h = g.h) (hn : f.n = g.n) : f = g := by
  obtain ⟨z, c, h, n⟩ := f
  obtain ⟨z', c', h', n'⟩ := g
  exact (Flags.mk.injEq ..).mpr ⟨hz, hc, hh, hn⟩

namespace Alu

/-- The value of a rotate or shift of the byte numbered `x`, `k` being the incoming Carry (R121 to R128). -/
def rotNumber (op : RotOp) (k x : Nat) : Nat :=
  match op with
  | .rlc => 2 * x % 256 + x / 128
  | .rrc => x / 2 + 128 * (x % 2)
  | .rl => 2 * x % 256 + k
  | .rr => x / 2 + 128 * k
  | .sla => 2 * x % 256
  | .sra => x / 2 + x / 128 * 128
  | .swap => x % 16 * 16 + x / 16
  | .srl => x / 2

/-- The bit of the byte numbered `x` that a rotate or shift moves to Carry; SWAP moves none (R128, D9). -/
def rotCarry (op : RotOp) (x : Nat) : Bool :=
  match op with
  | .rlc | .rl | .sla => decide (128 ≤ x)
  | .rrc | .rr | .sra | .srl => decide (x % 2 = 1)
  | .swap => false

/-- Zero after a rotate or shift of value `v`; SLA and SRA do not write it (R125, R126). -/
def rotZero (op : RotOp) (old : Bool) (v : Nat) : Bool :=
  match op with
  | .sla | .sra => old
  | .rlc | .rrc | .rl | .rr | .swap | .srl => decide (v = 0)

theorem toNat_append_eq {n m : Nat} (x : BitVec n) (y : BitVec m) : (x ++ y).toNat = x.toNat * 2 ^ m + y.toNat := by
  rw [BitVec.toNat_append, ← Nat.shiftLeft_add_eq_or_of_lt y.isLt, Nat.shiftLeft_eq]

theorem getLsbD_seven (v : Byte) : v.getLsbD 7 = decide (128 ≤ v.toNat) :=
  v.msb_eq_getLsbD_last.symm.trans v.msb_eq_decide

theorem getLsbD_zero (v : Byte) : v.getLsbD 0 = decide (v.toNat % 2 = 1) := Nat.testBit_zero v.toNat

theorem beq_zero_eq_decide (v : Byte) : (v == 0) = decide (v.toNat = 0) :=
  decide_eq_decide.mpr BitVec.toNat_inj.symm

section
variable (op : RotOp) (f : Flags) (v : Byte)

/-- Each helper puts its value together from fields of the byte and the Carry; the fields are quotients and remainders of
its number. -/
theorem toNat_rotate : (rotate Config.jgameboy op f v).1.toNat = rotNumber op f.c.toNat v.toNat := by
  have hv : v.toNat < 256 := v.isLt
  cases op <;>
    simp only [rotate, rlc, rrc, rl, rr, sla, sra, swap, srl, rotNumber, toNat_append_eq, BitVec.extractLsb'_toNat,
      BitVec.toNat_ofBool, BitVec.toNat_ofNat, Nat.shiftRight_eq_div_pow] <;>
    omega

theorem rotate_c : (rotate Config.jgameboy op f v).2.c = rotCarry op v.toNat := by
  cases op
  case rlc | rl | sla => exact getLsbD_seven v
  case rrc | rr | sra | srl => exact getLsbD_zero v
  case swap => rfl

theorem rotate_z : (rotate Config.jgameboy op f v).2.z = rotZero op f.z (rotNumber op f.c.toNat v.toNat) := by
  rw [← toNat_rotate]
  cases op
  case sla | sra => rfl
  all_goals exact beq_zero_eq_decide _

theorem rotate_h_n : (rotate Config.jgameboy op f v).2.h = false ∧ (rotate Config.jgameboy op f v).2.n = false := by
  cases op <;> exact ⟨rfl, rfl⟩

/-- What a rotate or shift answers, in the number of the byte (R121 to R128, D8, D9). -/
theorem rotate_eq : rotate Config.jgameboy op f v =
    (BitVec.ofNat 8 (rotNumber op f.c.toNat v.toNat),
      { z := rotZero op f.z (rotNumber op f.c.toNat v.toNat), c := rotCarry op v.toNat, h := false, n := false }) := by
  obtain ⟨hh, hn⟩ := rotate_h_n op f v
  refine Prod.ext ?value ?flags
  case value => rw [← toNat_rotate, BitVec.ofNat_toNat, BitVec.setWidth_eq]
  case flags => exact Flags.ext_fields (rotate_z op f v) (rotate_c op f v) hh hn

end

end Alu

/-- An accumulator rotate writes A and the flags, Zero by ROTA_Z = helper, and advances `pc` (R250 to R253, D13). -/
theorem State.rotA_eq (s : State) (op : RotOp) : s.rotA Config.jgameboy op =
    let v := Alu.rotNumber op s.flags.c.toNat s.a.toNat
    { s with
      a := BitVec.ofNat 8 v
      flags := { z := Alu.rotZero op s.flags.z v, c := Alu.rotCarry op s.a.toNat, h := false, n := false }
      pc := s.pc + 1 } := by
  rw [State.rotA, Alu.rotate_eq]
  rfl

/-- Settles O28, by what an accumulator rotate writes. -/
theorem accumulatorRotates : Obligations.AccumulatorRotates := by
  unfold Obligations.AccumulatorRotates
  intro s
  exact ⟨rfl, rfl, rfl, rfl, congrArg Host.Outcome.next (s.rotA_eq .rlc), congrArg Host.Outcome.next (s.rotA_eq .rrc),
    congrArg Host.Outcome.next (s.rotA_eq .rl), congrArg Host.Outcome.next (s.rotA_eq .rr)⟩

theorem encode_rotSlot (op : RotOp) (z : Slot) : encode (Instr.rotSlot op z) = [opOf 0 op.code z.code] := by
  cases op <;> cases z <;> rfl

/-- Settles O44: each is one slot write of what `rotate` answers. -/
theorem extendedRotatesAndShifts : Obligations.ExtendedRotatesAndShifts := by
  unfold Obligations.ExtendedRotatesAndShifts
  intro s op z hs
  have hwrites := State.updateSlot_writesSlot hs z (Alu.rotate Config.jgameboy op s.flags (s.readSlot z))
  rw [Alu.rotate_eq op s.flags (s.readSlot z)] at hwrites
  refine ⟨encode_rotSlot op z, s.extRot Config.jgameboy op z, exec_rotSlot op z s, ?_⟩
  rw [State.extRot, Alu.rotate_eq]
  cases op <;> exact hwrites

end Sys2Proof.Machine
end
